-- ==== Sys2Proof/Word.lean ====
section
/-! DEFINITION. The bit-vector types of the RSA core: the sequencer word SEQ and its two fields (30_encoding.md R67).
Everything else the spec computes on is a natural number (00_scope.md R9: "A model may therefore compute on natural
numbers"), a one-bit line (Bool, true = 1), or a band index. -/

namespace Sys2Proof

/-- The sequencer word `SEQ`, format SEQ8: `bits[7:3]` PHASE, `bits[2:0]` BAND (R27, R67). -/
abbrev SeqWord := BitVec 8

/-- The register and field `PHASE`, 5 bits (R24, R67). -/
abbrev PhaseField := BitVec 5

/-- The register and field `BAND`, 3 bits (R25, R67). Value 7 is reserved. -/
abbrev BandField := BitVec 3

/-- A legal band index, 0 to 6 (20_memory.md R47). -/
abbrev Band := Fin 7

end Sys2Proof
end

