-- ==== Sys2Proof/Config.lean ====
section
/-! DEFINITION. The parameters the spec leaves to the implementation (00_scope.md R8), the constraints it puts on them,
the spec's default values for the test vectors, and the free values: inputs the environment gives at an edge the state does
not list, and the pin level of an asserted reset line, which the spec leaves OPEN without a default (92_eei_decisions.md D12). -/

namespace Sys2Proof

/-- The two pattern families (30_encoding.md R77, R78; 43_mapper.md R124). -/
inductive Family where
  /-- Family A: ones from bit 0 upward. -/
  | a
  /-- Family B: ones from bit `B_ANCHOR` downward. -/
  | b
  deriving DecidableEq, Repr

/-- One entry of `BANDCFG`: the band's pattern family and floor (30_encoding.md R81). -/
structure BandCfg where
  family : Family
  floor  : Nat
  deriving DecidableEq, Repr

/-- The named parameters of one build of the core (00_scope.md R8). They are wired constants, not state (20_memory.md R64):
no micro-operation reads them from a register and no step changes them. -/
structure Params where
  /-- `SAMPLE_W`: bits of one ADC sample. -/
  sampleW : Nat
  /-- `OUT_W`: bits of one output bus. -/
  outW    : Nat
  /-- `B_ANCHOR`: highest bit of every Family B pattern. -/
  bAnchor : Nat
  /-- `BANDCFG[0..6]`. -/
  bandCfg : Vector BandCfg 7
  /-- `F_CLK`: clock frequency in Hz. -/
  fClk    : Nat
  /-- `N_RP`: periods of the reset-pulse wait. -/
  nRp     : Nat
  /-- `N_RS`: periods of the reset-settle wait. -/
  nRs     : Nat
  /-- `N_ST`: periods of each strobe-phase wait. -/
  nSt     : Nat
  /-- `TIMER_W`: bits of `TIMER`. -/
  timerW  : Nat
  deriving DecidableEq, Repr

namespace Params

/-- `SUM_W = SAMPLE_W + 2` (R8). -/
def sumW (p : Params) : Nat := p.sampleW + 2

/-- `POT_W = SAMPLE_W - 3` (R8). -/
def potW (p : Params) : Nat := p.sampleW - 3

/-- `BND_W = max(SAMPLE_W - 3, 8) + 1` (R8). -/
def bndW (p : Params) : Nat := max (p.sampleW - 3) 8 + 1

/-- How many bands other than `j` have the entry `c`. -/
def countOthers (t : Vector BandCfg 7) (j : Band) (c : BandCfg) : Nat :=
  (List.finRange 7).countP fun i => decide (i ≠ j) && decide (t[i] = c)

/-- The constraint of R8 on `BANDCFG`: but for one entry the source leaves open, four entries are Family A (one with floor
50, three with floor 100) and two are Family B with floor 100; every floor is below 110. -/
abbrev BandTableOk (t : Vector BandCfg 7) : Prop :=
  (∃ j : Band, countOthers t j ⟨.a, 50⟩ = 1 ∧ countOthers t j ⟨.a, 100⟩ = 3 ∧ countOthers t j ⟨.b, 100⟩ = 2) ∧
  ∀ i : Band, t[i].floor < 110

/-- `n` periods of a clock of `f` Hz last at least `us` microseconds (the form `N / F_CLK >= us` of R8, without division). -/
abbrev LastsAtLeast (n us f : Nat) : Prop := us * f ≤ n * 1000000

/-- The constraints of R8 on every parameter. -/
abbrev Valid (p : Params) : Prop :=
  4 ≤ p.sampleW ∧ 6 ≤ p.outW ∧ 5 ≤ p.bAnchor ∧ p.bAnchor ≤ p.outW - 1 ∧ BandTableOk p.bandCfg ∧ 0 < p.fClk ∧
  (1 ≤ p.nRp ∧ LastsAtLeast p.nRp 10 p.fClk) ∧
  (1 ≤ p.nRs ∧ LastsAtLeast p.nRs 80 p.fClk) ∧
  (1 ≤ p.nSt ∧ LastsAtLeast p.nSt 40 p.fClk) ∧
  1 ≤ p.timerW ∧ max (max p.nRp p.nRs) p.nSt - 1 < 2 ^ p.timerW

/-- The least period count of R75 for a minimum of `us` microseconds at `f` Hz: the ceiling of `us * f / 10^6`, raised to 1. -/
def leastCount (us f : Nat) : Nat := max 1 ((us * f + 999999) / 1000000)

/-- The default `BANDCFG` of R81: the spec's own choice for its test vectors (D14). -/
def defaultBands : Vector BandCfg 7 :=
  #v[⟨.a, 50⟩, ⟨.a, 100⟩, ⟨.a, 100⟩, ⟨.a, 100⟩, ⟨.b, 100⟩, ⟨.b, 100⟩, ⟨.b, 100⟩]

/-- The default parameters of R8: the spec's own choice for its test vectors (D4, D6, D9, D14, D15, D27). -/
def default : Params where
  sampleW := 10
  outW    := 8
  bAnchor := 7
  bandCfg := defaultBands
  fClk    := 1000000
  nRp     := 10
  nRs     := 80
  nSt     := 40
  timerW  := 7

end Params

namespace Config

/-- FREE VALUE. `RESET_ASSERT_LEVEL`, the pin level of `AZ_RESET` while the reset line is asserted: OPEN, no default (R8, D12). -/
opaque resetAssertLevel : Bool

/-- FREE VALUE. What `POR` reads at edge `n` when the state lists no input for that edge (60_exceptions.md R160). -/
opaque freePor : Nat → Bool

/-- FREE VALUE. What `ADC_DONE` reads at edge `n` when the state lists no input for that edge (10_state.md R43). -/
opaque freeAdcDone : Nat → Bool

/-- FREE VALUE. What `ADC_DATA` carries at edge `n` when the state lists no input for that edge (10_state.md R43); the port
takes its low `SAMPLE_W` bits. -/
opaque freeAdcData : Nat → Nat

end Config

end Sys2Proof
end

