-- ==== Sys2Proof/Syntax.lean ====
section
/-! DEFINITION. The 18 micro-operations of 30_encoding.md R70, one constructor per row of spec/opcode_table.json. The only
operand form is the band field of the word (R69, R76), kept here as its three bits, so that the reserved value 7 can be
written and refused (R72). -/

namespace Sys2Proof

/-- The closed list of micro-operations (R3, R70). -/
inductive Instr where
  /-- Assert the analyzer reset line, load TIMER (R88). -/
  | rsta
  /-- Wait the reset-pulse minimum (R89). -/
  | wrp
  /-- Deassert the analyzer reset line, load TIMER (R90). -/
  | rstd
  /-- Wait the reset-settle minimum (R91). -/
  | wrs
  /-- Assert the strobe line for band b, load TIMER (R92). -/
  | stba (b : BandField)
  /-- Wait the strobe minimum with the strobe asserted (R93). -/
  | wsa (b : BandField)
  /-- Start one conversion of the band-output channel (R94). -/
  | conv (b : BandField)
  /-- Wait for the conversion and capture the band sample (R95). -/
  | samp (b : BandField)
  /-- Deassert the strobe line, load TIMER (R96). -/
  | stbd (b : BandField)
  /-- Wait the strobe minimum with the strobe deasserted, then next band or leave the loop (R97). -/
  | wsd (b : BandField)
  /-- Select the potentiometer channel (R102). -/
  | selp
  /-- Start one conversion of the potentiometer channel (R103). -/
  | convp
  /-- Wait for the conversion and capture the potentiometer sample (R104). -/
  | sampp
  /-- Restore the band-output channel (R105). -/
  | selb
  /-- Compute POT and the five boundaries (R106). -/
  | scale
  /-- Push the band's new sample and average (R110). -/
  | push (b : BandField)
  /-- Compute the band's output pattern (R127). -/
  | map (b : BandField)
  /-- Write the seven output buses (R129). -/
  | rend
  deriving DecidableEq, Repr

/-- The mnemonic of R70 and R82. -/
def Instr.mnemonic : Instr → String
  | .rsta => "RSTA"
  | .wrp => "WRP"
  | .rstd => "RSTD"
  | .wrs => "WRS"
  | .stba _ => "STBA"
  | .wsa _ => "WSA"
  | .conv _ => "CONV"
  | .samp _ => "SAMP"
  | .stbd _ => "STBD"
  | .wsd _ => "WSD"
  | .selp => "SELP"
  | .convp => "CONVP"
  | .sampp => "SAMPP"
  | .selb => "SELB"
  | .scale => "SCALE"
  | .push _ => "PUSH"
  | .map _ => "MAP"
  | .rend => "REND"

/-- The band operand of a banded micro-operation, and none for the ten others (R69). -/
def Instr.bandOperand : Instr → Option BandField
  | .rsta => none
  | .wrp => none
  | .rstd => none
  | .wrs => none
  | .stba b => some b
  | .wsa b => some b
  | .conv b => some b
  | .samp b => some b
  | .stbd b => some b
  | .wsd b => some b
  | .selp => none
  | .convp => none
  | .sampp => none
  | .selb => none
  | .scale => none
  | .push b => some b
  | .map b => some b
  | .rend => none

/-- The listing line of R82: the mnemonic, and for a banded micro-operation one space and the band in decimal. -/
def Instr.listing (i : Instr) : String :=
  match i.bandOperand with
  | none => i.mnemonic
  | some b => i.mnemonic ++ " " ++ toString b.toNat

end Sys2Proof
end

