-- ==== Sys2Proof/WellFormed.lean ====
section
/-! DEFINITION. Well-formed micro-operations: the band operand of a banded micro-operation is 0 to 6 (30_encoding.md R69,
R71). It is the one check: the ten unbanded micro-operations carry nothing. -/

namespace Sys2Proof

/-- The check of R71 on a band operand. -/
def BandField.legal (b : BandField) : Bool := decide (b.toNat ≤ 6)

/-- A micro-operation is well formed when its band operand, if it has one, is legal (R71). -/
def Instr.wellFormed (i : Instr) : Bool :=
  match i.bandOperand with
  | none => true
  | some b => BandField.legal b

end Sys2Proof
end

