-- ==== Sys2Proof/Decode.lean ====
section
/-! DEFINITION. The decoder of the sequencer word and, after it, the encoder, both written from 30_encoding.md R67 to R72.
The decoder is total on all 256 words and rejects each of the 190 illegal ones by name (R72). The decoder of this core is
"the function from the current SEQ to the micro-operation rule to apply" (R67): nothing is fetched from a memory. -/

namespace Sys2Proof

/-- Why a word is illegal: the three classes of R72. -/
inductive DecodeError where
  /-- PHASE 18 to 31 (112 words). -/
  | reservedPhase
  /-- BAND 7 in a banded micro-operation (8 words). -/
  | bandSeven
  /-- BAND other than 0 in an unbanded micro-operation (70 words). -/
  | bandNotZero
  deriving DecidableEq, Repr

/-- `bits[7:3]` of a word (R67). -/
def phaseOfWord (w : SeqWord) : PhaseField := w.extractLsb' 3 5

/-- `bits[2:0]` of a word (R67, R76). -/
def bandOfWord (w : SeqWord) : BandField := w.extractLsb' 0 3

/-- A micro-operation without operand: its word has BAND = 0 (R69, R71). -/
def decodePlain (b : BandField) (i : Instr) : Except DecodeError Instr :=
  if b = 0 then .ok i else .error .bandNotZero

/-- A banded micro-operation: its BAND is 0 to 6 (R69, R71). -/
def decodeBanded (b : BandField) (f : BandField → Instr) : Except DecodeError Instr :=
  if BandField.legal b then .ok (f b) else .error .bandSeven

/-- The micro-operation map of R70, by PHASE number. PHASE selects the micro-operation alone (R68). -/
def decodeFields (p : PhaseField) (b : BandField) : Except DecodeError Instr :=
  match p.toNat with
  | 0 => decodePlain b .rsta
  | 1 => decodePlain b .wrp
  | 2 => decodePlain b .rstd
  | 3 => decodePlain b .wrs
  | 4 => decodeBanded b .stba
  | 5 => decodeBanded b .wsa
  | 6 => decodeBanded b .conv
  | 7 => decodeBanded b .samp
  | 8 => decodeBanded b .stbd
  | 9 => decodeBanded b .wsd
  | 10 => decodePlain b .selp
  | 11 => decodePlain b .convp
  | 12 => decodePlain b .sampp
  | 13 => decodePlain b .selb
  | 14 => decodePlain b .scale
  | 15 => decodeBanded b .push
  | 16 => decodeBanded b .map
  | 17 => decodePlain b .rend
  | _ => .error .reservedPhase

/-- The decoder: a micro-operation, or the reason the word is illegal (R67, R70, R72). -/
def decode (w : SeqWord) : Except DecodeError Instr :=
  decodeFields (phaseOfWord w) (bandOfWord w)

/-- The word is one of the 66 legal ones (R71). -/
def legalWord (w : SeqWord) : Bool :=
  match decode w with
  | .ok _ => true
  | .error _ => false

/-- The host's form of the decoder: the micro-operation read from an instruction of `nbits` bits (8 for every row of the
table, R73) whose bits are `w`; none where the decoder refuses. -/
def decodeTableWord (_nbits w : Nat) : Option Instr :=
  if w < 256 then
    match decode (BitVec.ofNat 8 w) with
    | .ok i => some i
    | .error _ => none
  else none

/-- The PHASE number of R70. -/
def phaseCode : Instr → PhaseField
  | .rsta => 0
  | .wrp => 1
  | .rstd => 2
  | .wrs => 3
  | .stba _ => 4
  | .wsa _ => 5
  | .conv _ => 6
  | .samp _ => 7
  | .stbd _ => 8
  | .wsd _ => 9
  | .selp => 10
  | .convp => 11
  | .sampp => 12
  | .selb => 13
  | .scale => 14
  | .push _ => 15
  | .map _ => 16
  | .rend => 17

/-- The BAND field of R69: the operand of a banded micro-operation, 0 in the others. -/
def bandCode (i : Instr) : BandField :=
  match i.bandOperand with
  | none => 0
  | some b => b

/-- The encoder: `PHASE ++ BAND`, the number `PHASE * 8 + BAND` (R67). -/
def encode (i : Instr) : SeqWord := phaseCode i ++ bandCode i

end Sys2Proof
end

