-- ==== Sys2Proof/Machine/State.lean ====
section
/-! DEFINITION. The machine's state as plain data: every register of 10_state.md R13 (eight data registers or arrays, six
control registers), and the model's own fields beside them: the build's parameters, the inputs the environment is known to
give at the coming edges, the number of the next edge, and what the environment's two agents have been shown at the pins.
There is no memory, stack, mode, fault or interrupt state to hold (R13, R46, R143, R147, R151). -/

namespace Sys2Proof.Machine

/-- The core raises nothing: no micro-operation can fault (60_exceptions.md R143), so this type has no constructor and no
step of the model ends in a fault. -/
inductive Fault where
  deriving DecidableEq, Repr

/-- Why the model declines to go on. Each is safe: it proves nothing of the hardware. -/
inductive Refusal where
  /-- Raised by `exec` for a micro-operation that has no meaning yet. Safe. -/
  | notModelled (mnemonic : String)
  /-- Raised by `step` when `SEQ` is one of the 190 illegal words and `POR` is 0: "A model that admits arbitrary start states
  refuses a state whose SEQ is illegal" (R72, D19). Unreachable from reset. Safe. -/
  | illegalSeq (reason : DecodeError)
  /-- Raised by a banded micro-operation whose operand is the reserved band 7 (20_memory.md R52, 44_contracts.md R136, D33).
  Safe: the decoder never gives such an operand. -/
  | illegalBand
  deriving DecidableEq, Repr

/-- One band's history, oldest first: `HIST[b][0..3]` (R18, R48). -/
structure Hist where
  /-- slot 0, the oldest sample -/
  h0 : Nat
  h1 : Nat
  h2 : Nat
  /-- slot 3, the newest sample -/
  h3 : Nat
  deriving DecidableEq, Repr

/-- The three data inputs of R34 at one rising edge. -/
structure Input where
  /-- `POR`, active high, synchronous (R42). -/
  por     : Bool
  /-- `ADC_DONE` (R37). -/
  adcDone : Bool
  /-- What is put on `ADC_DATA`; the port carries its low `SAMPLE_W` bits (R38). -/
  adcData : Nat
  deriving DecidableEq, Repr

/-- The ADC's hidden state as far as the pins determine it: whether a conversion is in flight and which channel it latched
(R43), in the phases the handshake contract of R39 distinguishes. No meaning reads it; it bounds what the ADC's two ports can
read (60_exceptions.md R160). -/
inductive Adc where
  /-- No conversion has been started yet. -/
  | idle
  /-- `ADC_START` was 1 in the period before this one, with this channel (R39 a). -/
  | started (ch : Bool)
  /-- A conversion of this channel is in flight and `ADC_DONE` has not been 1 since its start (R39 b). -/
  | busy (ch : Bool)
  /-- The last conversion, of this channel, has been seen complete with this value, and `ADC_DONE` has not dropped since
  (R39 c, d). -/
  | done (ch : Bool) (value : Nat)
  /-- The last conversion, of this channel, has been seen complete, and `ADC_DONE` has dropped since (R39 c broken). -/
  | spent (ch : Bool)
  deriving DecidableEq, Repr

/-- The state held during one period (R85). -/
structure State where
  /-- `PHASE`, 5 bits (R24). -/
  phase  : PhaseField
  /-- `BAND`, 3 bits (R25). -/
  band   : BandField
  /-- `TIMER`, `TIMER_W` bits (R26). -/
  timer  : Nat
  /-- `RSTL`, 1 bit: true = 1 = reset line asserted (R29). -/
  rstl   : Bool
  /-- `STBL`, 1 bit: true = 1 = strobe line asserted (R30). -/
  stbl   : Bool
  /-- `CHSEL`, 1 bit: false = 0 = band-output channel, true = 1 = potentiometer channel (R31). -/
  chsel  : Bool
  /-- `RAW[0..6]`, `SAMPLE_W` bits each (R14). -/
  raw    : Vector Nat 7
  /-- `POTRAW`, `SAMPLE_W` bits (R15). -/
  potraw : Nat
  /-- `POT`, `POT_W` bits (R16). -/
  pot    : Nat
  /-- `BND[0..4]`, `BND_W` bits each (R17). -/
  bnd    : Vector Nat 5
  /-- `HIST[0..6][0..3]`, `SAMPLE_W` bits each (R18). -/
  hist   : Vector Hist 7
  /-- `LEVEL[0..6]`, `SAMPLE_W` bits each (R19). -/
  level  : Vector Nat 7
  /-- `OUTPAT[0..6]`, `OUT_W` bits each (R20). -/
  outpat : Vector Nat 7
  /-- `PORT[0..6]`, `OUT_W` bits each (R21). -/
  port   : Vector Nat 7
  /-- MODEL'S OWN: the parameters of this build (00_scope.md R8); no step changes them. -/
  cfg    : Params
  /-- MODEL'S OWN: the inputs known for the coming edges, the next edge first. -/
  inputs : List Input
  /-- MODEL'S OWN: the number of the next edge; it picks the free input where `inputs` lists none. -/
  edge   : Nat
  /-- MODEL'S OWN: what the ADC has been shown at the pins (R43). -/
  adc    : Adc
  /-- MODEL'S OWN: strobe assertions the analyzer IC has been shown since the last assertion of its reset line (R47, R100). -/
  azSeen : Nat
  deriving DecidableEq, Repr

/-- The machine of parameters `p` right after reset (R45, R161). RAW, POTRAW, POT, BND, LEVEL and OUTPAT, which the spec
leaves unspecified, hold 0: DESIGN CHOICE, log entry 1. -/
def State.resetFor (p : Params) : State where
  phase  := 0
  band   := 0
  timer  := 0
  rstl   := false
  stbl   := false
  chsel  := false
  raw    := Vector.replicate 7 0
  potraw := 0
  pot    := 0
  bnd    := Vector.replicate 5 0
  hist   := Vector.replicate 7 ⟨0, 0, 0, 0⟩
  level  := Vector.replicate 7 0
  outpat := Vector.replicate 7 0
  port   := Vector.replicate 7 0
  cfg    := p
  inputs := []
  edge   := 0
  adc    := .idle
  azSeen := 0

/-- The machine right after reset, with the spec's default parameters (R45, R8; log entry 2), no input listed and no
conversion ever started. -/
def State.reset : State := State.resetFor Params.default

end Sys2Proof.Machine
end

