-- ==== Sys2Proof/Machine/Env.lean ====
section
/-! DEFINITION. The core's side of its environment: the input ports as sampled at an edge, the output pins of a period, and
what the ADC and the analyzer IC are shown at the pins (10_state.md R34 to R44), within the moves that
60_exceptions.md R160 gives the environment. -/

namespace Sys2Proof.Machine

/-- What the environment puts on the inputs at the `k`-th coming edge (0 is the edge that ends this period): the listed
values, or free values where the list has ended (60_exceptions.md R160: the environment's choice at every edge). -/
def State.inputAt (s : State) (k : Nat) : Input :=
  match s.inputs[k]? with
  | some i => i
  | none => ⟨Config.freePor (s.edge + k), Config.freeAdcDone (s.edge + k), Config.freeAdcData (s.edge + k)⟩

/-- What is put on `ADC_DATA` at the `k`-th coming edge: an unsigned value of `SAMPLE_W` bits (R38). -/
def State.adcDataAt (s : State) (k : Nat) : Nat := (s.inputAt k).adcData % 2 ^ s.cfg.sampleW

/-- What `ADC_DONE` can read when the environment's choice is `raised`. "Assumed never to do" of R160, "raise ADC_DONE for a
conversion that was not started": with no conversion in flight and the flag down, it stays down until the next start
(log entry 16). -/
def Adc.doneReads (a : Adc) (raised : Bool) : Bool :=
  match a with
  | .idle => false
  | .started _ => raised
  | .busy _ => raised
  | .done _ _ => raised
  | .spent _ => false

/-- What `ADC_DATA` can read when the environment's choices are `raised` and `value`. "Assumed never to do" of R160, "change
ADC_DATA while ADC_DONE = 1": while the flag of a complete conversion stays up, its value stays (log entry 16). -/
def Adc.dataReads (a : Adc) (raised : Bool) (value : Nat) : Nat :=
  match a with
  | .idle => value
  | .started _ => value
  | .busy _ => value
  | .done _ v => if raised then v else value
  | .spent _ => value

/-- The inputs of an edge as an environment that makes none of the two moves of R160 shows them: `POR` as chosen, and the
ADC's ports within what the ADC can show. -/
def Adc.restrict (a : Adc) (i : Input) : Input :=
  { i with adcDone := a.doneReads i.adcDone, adcData := a.dataReads i.adcDone i.adcData }

/-- `IN`: the inputs sampled at the edge that ends this period (R11, R85, R160). -/
def State.input (s : State) : Input := s.adc.restrict (s.inputAt 0)

/-- `IN.ADC_DATA`, `SAMPLE_W` bits (R38). -/
def State.adcData (s : State) : Nat := s.input.adcData % 2 ^ s.cfg.sampleW

/-- The output pins of one period (R34). -/
structure Pins where
  adcStart : Bool
  adcCh    : Bool
  azReset  : Bool
  azStrobe : Bool
  led      : Vector Nat 7
  deriving DecidableEq, Repr

/-- `ADC_START`, decoded from `PHASE`: 1 exactly in CONV (6) and CONVP (11) (R35). -/
def State.adcStart (s : State) : Bool := s.phase == 6 || s.phase == 11

/-- `ADC_CH` equals `CHSEL` (R36). -/
def State.adcCh (s : State) : Bool := s.chsel

/-- `AZ_STROBE` is active low: level 0 while the strobe line is asserted (R40). -/
def State.azStrobe (s : State) : Bool := !s.stbl

/-- `AZ_RESET` when an asserted reset line has pin level `level` (R40; the level is the open parameter of D12). -/
def State.azResetAt (level : Bool) (s : State) : Bool := if s.rstl then level else !level

/-- `LED_b` equals `PORT[b]` (R41). -/
def State.led (s : State) (b : Band) : Nat := s.port[b]

/-- All output pins, for a pin level of the asserted reset line. -/
def State.pinsAt (level : Bool) (s : State) : Pins where
  adcStart := s.adcStart
  adcCh    := s.adcCh
  azReset  := s.azResetAt level
  azStrobe := s.azStrobe
  led      := s.port

/-- All output pins of this build, whose reset polarity is the free value `RESET_ASSERT_LEVEL`. -/
def State.pins (s : State) : Pins := s.pinsAt Config.resetAssertLevel

/-- What the ADC has been shown after one edge: a start pulse latches the selected channel; a conversion in flight is seen
complete at the first edge at which `ADC_DONE` reads 1 (R39, R43); a flag that drops after completion (a broken contract,
R39 c) leaves nothing to raise it for. DESIGN CHOICE (log entry 17), unsafe: a stale flag in the period right after a start
(R39 a broken, R171) counts in this record as the completion of the new conversion, since the pins do not tell the two apart;
if it then drops, the record is `.spent` although the ADC may still be converting, and `ADC_DONE` reads 0 until the next
start. R171 does not say what the flag does when that conversion really ends. -/
def Adc.edge (a : Adc) (start ch done : Bool) (value : Nat) : Adc :=
  if start then .started ch
  else
    match a with
    | .idle => .idle
    | .started c => if done then .done c value else .busy c
    | .busy c => if done then .done c value else .busy c
    | .done c v => if done then .done c v else .spent c
    | .spent c => .spent c

/-- A conversion is in flight: started and not yet seen complete (R43). -/
def Adc.inFlight : Adc → Bool
  | .idle => false
  | .started _ => true
  | .busy _ => true
  | .done _ _ => false
  | .spent _ => false

/-- The channel latched by the last conversion started, if any (R43). -/
def Adc.channel : Adc → Option Bool
  | .idle => none
  | .started c => some c
  | .busy c => some c
  | .done c _ => some c
  | .spent c => some c

/-- The handshake contract of R39 for the inputs at one edge, with R160: (a) not done in the period after a start; (b) then
free; (c) done and the value stay once seen; and not done where no conversion was started (R160). -/
def Adc.allows (a : Adc) (done : Bool) (value : Nat) : Bool :=
  match a with
  | .idle => !done
  | .started _ => !done
  | .busy _ => true
  | .done _ v => done && value == v
  | .spent _ => !done

/-- The environment keeps the ADC contract at the edge that ends this period (R39). The core does not depend on it: no meaning
asks for it, and an environment that breaks (a), or (c) by dropping the flag, is in the model (R171, R172, D10). -/
def State.adcKeepsContract (s : State) : Bool := s.adc.allows s.input.adcDone s.adcData

/-- The strobe assertions seen since the last assertion of the reset line, after an edge at which the two lines went from
their levels in `s` to those in `t` (R47, R100). -/
def azEdge (s t : State) : Nat :=
  if !s.rstl && t.rstl then 0
  else if !s.stbl && t.stbl then s.azSeen + 1
  else s.azSeen

/-- The edge that ends the period of `s` and leads to the registers of `t`: one input is used up and the environment's
agents are shown the pins of the period (R39, R42). The registers are those of `t`. -/
def State.closePeriod (s t : State) : State :=
  { t with
    inputs := s.inputs.tail
    edge   := s.edge + 1
    adc    := s.adc.edge s.adcStart s.adcCh s.input.adcDone s.adcData
    azSeen := azEdge s t }

end Sys2Proof.Machine
end

