-- ==== Sys2Proof/Machine/Flags.lean ====
section
/-! DEFINITION. The core stores no flag; its only condition values are combinational and live for one period (10_state.md
R32): the sequencer conditions `TIMER == 0`, `IN.ADC_DONE == 1` (the third, `BAND == 6`, stands in `nextBand`) and the six
comparator outputs of the comparator tree (43_mapper.md R118). -/

namespace Sys2Proof.Machine

/-- `T0`: `TIMER == 0` (R86). -/
def State.timerZero (s : State) : Bool := s.timer == 0

/-- `DONE`: `IN.ADC_DONE == 1` (R86). -/
def State.adcDone (s : State) : Bool := s.input.adcDone

/-- The comparator outputs `C[0..5]`, all strict "greater than", on naturals (R118, R175). -/
def comparators (level floor : Nat) (bnd : Vector Nat 5) : Vector Bool 6 :=
  #v[decide (level > floor), decide (level > bnd[0]), decide (level > bnd[1]), decide (level > bnd[2]),
     decide (level > bnd[3]), decide (level > bnd[4])]

/-- The bucket: the number of ones among the comparator outputs (R121). -/
def bucketOf (out : Vector Bool 6) : Nat :=
  out[0].toNat + out[1].toNat + out[2].toNat + out[3].toNat + out[4].toNat + out[5].toNat

/-- `bucket(level, floor, BND)` (R120 in the form of R121). -/
def bucket (level floor : Nat) (bnd : Vector Nat 5) : Nat := bucketOf (comparators level floor bnd)

end Sys2Proof.Machine
end

