-- ==== Sys2Proof/Machine/Operands.lean ====
section
/-! DEFINITION. The only operand form of the core: the band index of the word, used directly as an array index
(30_encoding.md R76, 20_memory.md R47). -/

namespace Sys2Proof.Machine

/-- The array index a BAND field stands for: 0 to 6, none for the reserved value 7 (R25, R47). -/
def bandIndex (b : BandField) : Option Band :=
  if h : b.toNat < 7 then some ⟨b.toNat, h⟩ else none

/-- The BAND field of a legal band index. -/
def bandBits (b : Band) : BandField := BitVec.ofNat 3 b.val

/-- A banded micro-operation with its operand as an index; the reserved operand 7 is refused (R52, R72, D33). -/
def withBand (b : BandField) (k : Band → Host.Outcome State Fault Refusal) : Host.Outcome State Fault Refusal :=
  match bandIndex b with
  | some c => k c
  | none => .refused .illegalBand

/-- The loop over the bands: the loop's head with the next band, or what follows the loop after band 6 (R86, R97, R127). -/
def nextBand (b : Band) (loopHead : BandField → Instr) (after : Instr) : Instr :=
  if b.val < 6 then loopHead (BitVec.ofNat 3 (b.val + 1)) else after

end Sys2Proof.Machine
end

