-- ==== Sys2Proof/Machine/Ops.lean ====
section
/-! DEFINITION. The named operations the meanings are made of: register writes, the write of SEQ, the timer, the FIFO and
its average, the boundaries, the patterns, and power-on reset. POWER-ON RESET stands where other models take an exception:
it is "the only transfer of control not in the table" of R86 (60_exceptions.md R149); the core has no exception, trap or
return from one (R143, R149, R150). -/

namespace Sys2Proof.Machine

/-- The sequencer word of the current period, `SEQ = PHASE ++ BAND` (R27, R67). -/
def State.seq (s : State) : SeqWord := s.phase ++ s.band

/-- The micro-operation current in this period, or why SEQ is illegal (R67, R72). -/
def State.current (s : State) : Except DecodeError Instr := decode s.seq

/-- Write SEQ as a word. -/
def State.loadSeq (s : State) (w : SeqWord) : State := { s with phase := phaseOfWord w, band := bandOfWord w }

/-- `SEQ <- (P, b)` (R11): PHASE and BAND of the micro-operation that comes next. -/
def State.goto (s : State) (i : Instr) : State := { s with phase := phaseCode i, band := bandCode i }

/-- `TIMER <- N - 1`: what the micro-operation before a wait of `n` periods loads (R87). -/
def State.loadTimer (s : State) (n : Nat) : State := { s with timer := n - 1 }

/-- `TIMER <- TIMER - 1` (R87). -/
def State.countDown (s : State) : State := { s with timer := s.timer - 1 }

/-- One period of a wait: to the successor when TIMER is 0, else count down and stay (R87). -/
def State.wait (s : State) (succ : Instr) : State :=
  if s.timerZero then s.goto succ else s.countDown

/-- Write `RSTL` (R29). -/
def State.setRstl (s : State) (v : Bool) : State := { s with rstl := v }

/-- Write `STBL` (R30). -/
def State.setStbl (s : State) (v : Bool) : State := { s with stbl := v }

/-- Write `CHSEL` (R31). -/
def State.setChsel (s : State) (v : Bool) : State := { s with chsel := v }

/-- Write `RAW[b]` (R14). -/
def State.setRaw (s : State) (b : Band) (v : Nat) : State := { s with raw := s.raw.set b v }

/-- Write `POTRAW` (R15). -/
def State.setPotraw (s : State) (v : Nat) : State := { s with potraw := v }

/-- Write `POT` and `BND[0..4]` together (R16, R17, R55). -/
def State.setPotBnd (s : State) (p : Nat) (b : Vector Nat 5) : State := { s with pot := p, bnd := b }

/-- Write the four slots of `HIST[b]` and `LEVEL[b]` together (R18, R19, R55). -/
def State.setHistLevel (s : State) (b : Band) (h : Hist) (l : Nat) : State :=
  { s with hist := s.hist.set b h, level := s.level.set b l }

/-- Write `OUTPAT[b]` (R20). -/
def State.setOutpat (s : State) (b : Band) (v : Nat) : State := { s with outpat := s.outpat.set b v }

/-- Write all seven `PORT` registers together (R21, R55). -/
def State.setPorts (s : State) (v : Vector Nat 7) : State := { s with port := v }

/-- The window shifts left and the new sample takes slot 3; slot 0 is discarded (R110, R136). -/
def Hist.push (h : Hist) (x : Nat) : Hist := ⟨h.h1, h.h2, h.h3, x⟩

/-- The exact sum of the four slots, `SUM_W` bits (R110, R114). -/
def Hist.sum (h : Hist) : Nat := h.h0 + h.h1 + h.h2 + h.h3

/-- `avg4`: the sum shifted right by 2, truncating (R111). -/
def Hist.avg (h : Hist) : Nat := h.sum >>> 2

/-- `POTRAW >> 3` (R106). -/
def scalePot (r : Nat) : Nat := r >>> 3

/-- The five boundaries `100 + 10 (i + 1) + p` (R106). -/
def boundaries (p : Nat) : Vector Nat 5 := Vector.ofFn fun i => 100 + 10 * (i.val + 1) + p

/-- `PATA[k] = 2^k - 1` (R77). -/
def patA (k : Nat) : Nat := 2 ^ k - 1

/-- `PATB[k] = (2^k - 1) << (B_ANCHOR + 1 - k)`, and 0 for bucket 0 (R78). -/
def patB (anchor k : Nat) : Nat := (2 ^ k - 1) <<< (anchor + 1 - k)

/-- `PAT(f, k)` (R124). -/
def pattern (p : Params) (f : Family) (k : Nat) : Nat :=
  match f with
  | .a => patA k
  | .b => patB p.bAnchor k

/-- `map(level, BND, (f, floor)) = PAT(f, bucket(level, floor, BND))` (R126). -/
def mapLevel (p : Params) (level : Nat) (bnd : Vector Nat 5) (c : BandCfg) : Nat :=
  pattern p c.family (bucket level c.floor bnd)

/-- The registers after an edge at which `POR` is sampled 1: the reset state of R45, whatever the state before, legal or not
(R161). The parameters are wired; the environment's fields are not the core's to reset (R165). -/
def State.powerOnReset (s : State) : State :=
  { State.resetFor s.cfg with inputs := s.inputs, edge := s.edge, adc := s.adc, azSeen := s.azSeen }

/-- The edge that ends the period of `s`, applied to what the micro-operation answers. -/
def closeOutcome (s : State) : Host.Outcome State Fault Refusal → Host.Outcome State Fault Refusal
  | .next t => .next (s.closePeriod t)
  | .fault f => .fault f
  | .refused r => .refused r

/-- The input a test bench shows at the next edge so that it runs the current micro-operation: `POR` low. Where the state
lists no input yet, one is listed that lets a busy-wait complete with the value 0 (log entry 5). -/
def State.withPorLow (s : State) : State :=
  match s.inputs with
  | i :: rest => { s with inputs := { i with por := false } :: rest }
  | [] => { s with inputs := [⟨false, true, 0⟩] }

/-- The conversion a test bench needs in flight so that the busy-wait in SEQ (SAMP 7, SAMPP 12) has one to wait for, as CONV
and CONVP leave it; nothing where SEQ is no busy-wait (log entry 5). -/
def State.withConversion (s : State) : State :=
  if s.phase == 7 || s.phase == 12 then { s with adc := .busy s.chsel } else s

end Sys2Proof.Machine
end

