-- ==== Sys2Proof/Machine/Filter.lean ====
section
/-! DEFINITION. The meaning of PUSH, the moving-average filter with its four-element FIFO (42_filter.md R110). -/

namespace Sys2Proof.Machine

/-- PUSH b: shift `HIST[b]`, insert `RAW[b]` at slot 3, `LEVEL[b] <- sum >> 2` of the new history, `SEQ <- (MAP, b)` (R110). -/
def execPush (b : BandField) (s : State) : Host.Outcome State Fault Refusal :=
  withBand b fun c =>
    .next ((s.setHistLevel c (s.hist[c].push s.raw[c]) (s.hist[c].push s.raw[c]).avg).goto (.map b))

end Sys2Proof.Machine
end

