-- ==== Sys2Proof/Machine/Mapper.lean ====
section
/-! DEFINITION. The meanings of MAP, the comparator tree and segment mapper, and REND, the write of the output buses
(43_mapper.md R127, R129). -/

namespace Sys2Proof.Machine

/-- MAP b: `OUTPAT[b] <- PAT(f, bucket(LEVEL[b], floor, BND))` with `(f, floor) = BANDCFG[b]`, then
`if b < 6 then SEQ <- (PUSH, b + 1) else SEQ <- (REND, 0)` (R127). -/
def execMap (b : BandField) (s : State) : Host.Outcome State Fault Refusal :=
  withBand b fun c =>
    .next ((s.setOutpat c (mapLevel s.cfg s.level[c] s.bnd s.cfg.bandCfg[c])).goto (nextBand c .push .rend))

/-- REND: `PORT[b] <- OUTPAT[b]` for every b at the same edge, `SEQ <- (RSTA, 0)` (R129). -/
def execRend (s : State) : Host.Outcome State Fault Refusal :=
  .next ((s.setPorts s.outpat).goto .rsta)

end Sys2Proof.Machine
end

