-- ==== Sys2Proof/Machine/Scaler.lean ====
section
/-! DEFINITION. The meanings of the five micro-operations of the threshold scaler (41_scaler.md R102 to R106). -/

namespace Sys2Proof.Machine

/-- SELP: `CHSEL <- 1 ; SEQ <- (CONVP, 0)` (R102). -/
def execSelp (s : State) : Host.Outcome State Fault Refusal :=
  .next ((s.setChsel true).goto .convp)

/-- CONVP: `SEQ <- (SAMPP, 0)`; `ADC_START` is 1 during this period (R103, R35). -/
def execConvp (s : State) : Host.Outcome State Fault Refusal :=
  .next (s.goto .sampp)

/-- SAMPP: `if IN.ADC_DONE == 1 then POTRAW <- IN.ADC_DATA ; SEQ <- (SELB, 0) else stay` (R104). -/
def execSampp (s : State) : Host.Outcome State Fault Refusal :=
  .next (if s.adcDone then (s.setPotraw s.adcData).goto .selb else s)

/-- SELB: `CHSEL <- 0 ; SEQ <- (SCALE, 0)` (R105). -/
def execSelb (s : State) : Host.Outcome State Fault Refusal :=
  .next ((s.setChsel false).goto .scale)

/-- SCALE: `p = POTRAW >> 3 ; POT <- p ; BND[i] <- 100 + 10 (i + 1) + p ; SEQ <- (PUSH, 0)` (R106). -/
def execScale (s : State) : Host.Outcome State Fault Refusal :=
  .next ((s.setPotBnd (scalePot s.potraw) (boundaries (scalePot s.potraw))).goto (.push 0))

end Sys2Proof.Machine
end

