-- ==== Sys2Proof/Machine/Sequencer.lean ====
section
/-! DEFINITION. The meanings of the ten micro-operations of the band-protocol synchronizer (40_sequencer.md R88 to R97). -/

namespace Sys2Proof.Machine

/-- RSTA: `RSTL <- 1 ; TIMER <- N_RP - 1 ; SEQ <- (WRP, 0)` (R88). -/
def execRsta (s : State) : Host.Outcome State Fault Refusal :=
  .next (((s.setRstl true).loadTimer s.cfg.nRp).goto .wrp)

/-- WRP: `if TIMER == 0 then SEQ <- (RSTD, 0) else TIMER <- TIMER - 1` (R89). -/
def execWrp (s : State) : Host.Outcome State Fault Refusal :=
  .next (s.wait .rstd)

/-- RSTD: `RSTL <- 0 ; TIMER <- N_RS - 1 ; SEQ <- (WRS, 0)` (R90). -/
def execRstd (s : State) : Host.Outcome State Fault Refusal :=
  .next (((s.setRstl false).loadTimer s.cfg.nRs).goto .wrs)

/-- WRS: `if TIMER == 0 then SEQ <- (STBA, 0) else TIMER <- TIMER - 1` (R91). -/
def execWrs (s : State) : Host.Outcome State Fault Refusal :=
  .next (s.wait (.stba 0))

/-- STBA b: `STBL <- 1 ; TIMER <- N_ST - 1 ; SEQ <- (WSA, b)` (R92). -/
def execStba (b : BandField) (s : State) : Host.Outcome State Fault Refusal :=
  withBand b fun _ => .next (((s.setStbl true).loadTimer s.cfg.nSt).goto (.wsa b))

/-- WSA b: `if TIMER == 0 then SEQ <- (CONV, b) else TIMER <- TIMER - 1` (R93). -/
def execWsa (b : BandField) (s : State) : Host.Outcome State Fault Refusal :=
  withBand b fun _ => .next (s.wait (.conv b))

/-- CONV b: `SEQ <- (SAMP, b)`; `ADC_START` is 1 during this period (R94, R35). -/
def execConv (b : BandField) (s : State) : Host.Outcome State Fault Refusal :=
  withBand b fun _ => .next (s.goto (.samp b))

/-- SAMP b: `if IN.ADC_DONE == 1 then RAW[b] <- IN.ADC_DATA ; SEQ <- (STBD, b) else stay` (R95). -/
def execSamp (b : BandField) (s : State) : Host.Outcome State Fault Refusal :=
  withBand b fun c => .next (if s.adcDone then (s.setRaw c s.adcData).goto (.stbd b) else s)

/-- STBD b: `STBL <- 0 ; TIMER <- N_ST - 1 ; SEQ <- (WSD, b)` (R96). -/
def execStbd (b : BandField) (s : State) : Host.Outcome State Fault Refusal :=
  withBand b fun _ => .next (((s.setStbl false).loadTimer s.cfg.nSt).goto (.wsd b))

/-- WSD b: `if TIMER != 0 then TIMER <- TIMER - 1 else if b < 6 then SEQ <- (STBA, b + 1) else SEQ <- (SELP, 0)` (R97). -/
def execWsd (b : BandField) (s : State) : Host.Outcome State Fault Refusal :=
  withBand b fun c => .next (s.wait (nextBand c .stba .selp))

end Sys2Proof.Machine
end

