-- ==== Sys2Proof/Machine/Dispatch.lean ====
section
/-! DEFINITION. One arm per micro-operation (30_encoding.md R70): the writes of the micro-operation, without the edge's work
on the environment, which the step adds. -/

namespace Sys2Proof.Machine

def exec (i : Instr) (s : State) : Host.Outcome State Fault Refusal :=
  match i with
  | .rsta => Sys2Proof.Machine.execRsta s
  | .wrp => Sys2Proof.Machine.execWrp s
  | .rstd => Sys2Proof.Machine.execRstd s
  | .wrs => Sys2Proof.Machine.execWrs s
  | .stba b => Sys2Proof.Machine.execStba b s
  | .wsa b => Sys2Proof.Machine.execWsa b s
  | .conv b => Sys2Proof.Machine.execConv b s
  | .samp b => Sys2Proof.Machine.execSamp b s
  | .stbd b => Sys2Proof.Machine.execStbd b s
  | .wsd b => Sys2Proof.Machine.execWsd b s
  | .selp => Sys2Proof.Machine.execSelp s
  | .convp => Sys2Proof.Machine.execConvp s
  | .sampp => Sys2Proof.Machine.execSampp s
  | .selb => Sys2Proof.Machine.execSelb s
  | .scale => Sys2Proof.Machine.execScale s
  | .push b => Sys2Proof.Machine.execPush b s
  | .map b => Sys2Proof.Machine.execMap b s
  | .rend => Sys2Proof.Machine.execRend s

end Sys2Proof.Machine
end

