-- ==== Sys2Proof/Machine/Step.lean ====
section
/-! DEFINITION. One step per rising edge of CLK (40_sequencer.md R85): power-on reset overrides everything; otherwise the
micro-operation named by SEQ runs, and the edge closes the period. A state whose SEQ is illegal has no step (R72). -/

namespace Sys2Proof.Machine

/-- The step rule of R85. -/
def step (s : State) : Host.Outcome State Fault Refusal :=
  if s.input.por then .next (s.closePeriod s.powerOnReset)
  else
    match s.current with
    | .ok i => closeOutcome s (exec i s)
    | .error e => .refused (.illegalSeq e)

/-- `s` with the sequencer word `w` in `SEQ`, `POR` low at the next edge, and a conversion in flight where `w` waits for one:
the very next step runs that micro-operation. The core fetches nothing (R3); this stands for the sequencer having reached that word (log entry 5). -/
def State.withFetchWord (s : State) (_nbits w : Nat) : State :=
  (s.loadSeq (BitVec.ofNat 8 w)).withPorLow.withConversion

end Sys2Proof.Machine
end

