-- ==== Sys2Proof/Machine/Contracts.lean ====
section
/-! DEFINITION. The source's function contracts as macros over the micro-operations, the wired program, and the pure
functions they compute (30_encoding.md R83, R84; 44_contracts.md R132 to R142; 70_reset_and_hazards.md R177, R178). Nothing
here adds behaviour: no meaning and no step uses this file. -/

namespace Sys2Proof.Machine

/-- The seven BAND values in the order of the band loops. -/
def allBands : List BandField := [0, 1, 2, 3, 4, 5, 6]

/-- The source's function contracts (R83). -/
inductive Macro where
  /-- `sample()` on the band channel -/
  | sampleBand (b : BandField)
  /-- `sample()` on the potentiometer channel -/
  | samplePot
  /-- `reset_cycle()` -/
  | resetCycle
  /-- `read_all_bands()` -/
  | readAllBands
  /-- `push_and_average(band, RawSample)` -/
  | pushAndAverage (b : BandField)
  /-- `rescale()` -/
  | rescale
  /-- `map(level, boundaries, band_kind)` -/
  | mapBand (b : BandField)
  /-- the output write, RENDER -/
  | render
  deriving DecidableEq, Repr

/-- The six micro-operations of one band read (R135). -/
def bandRead (b : BandField) : List Instr := [.stba b, .wsa b, .conv b, .samp b, .stbd b, .wsd b]

/-- The run of micro-operations a macro stands for (R83). -/
def Macro.expansion : Macro → List Instr
  | .sampleBand b => [.conv b, .samp b]
  | .samplePot => [.convp, .sampp]
  | .resetCycle => [.rsta, .wrp, .rstd, .wrs]
  | .readAllBands => allBands.flatMap bandRead
  | .pushAndAverage b => [.push b]
  | .rescale => [.selp, .convp, .sampp, .selb, .scale]
  | .mapBand b => [.map b]
  | .render => [.rend]

/-- The wired program: the 66 legal micro-operations in the order one cycle visits them (R84). -/
def wiredProgram : List Instr :=
  Macro.resetCycle.expansion ++ Macro.readAllBands.expansion ++ Macro.rescale.expansion ++
  allBands.flatMap (fun b => (Macro.pushAndAverage b).expansion ++ (Macro.mapBand b).expansion) ++ Macro.render.expansion

/-- `push_and_average(band, s)` on the history array: the new array and the level; not defined for a band outside 0 to 6,
which is refused (R136, D33). -/
def pushAndAverage (hists : Vector Hist 7) (b : Nat) (x : Nat) : Option (Vector Hist 7 × Nat) :=
  if h : b < 7 then some (hists.set b (hists[b].push x), (hists[b].push x).avg) else none

/-- `rescale()` as a pure function: `bounds(r)` (R137). -/
def bounds (r : Nat) : Vector Nat 5 := boundaries (scalePot r)

/-- `H'` of R140: every band's history with its new sample pushed. -/
def cycleHist (hists : Vector Hist 7) (v : Vector Nat 7) : Vector Hist 7 :=
  Vector.ofFn fun b => hists[b].push v[b]

/-- `L` of R140. -/
def cycleLevel (hists : Vector Hist 7) (v : Vector Nat 7) : Vector Nat 7 :=
  Vector.ofFn fun b => (hists[b].push v[b]).avg

/-- `P` of R140. -/
def cyclePorts (p : Params) (hists : Vector Hist 7) (v : Vector Nat 7) (r : Nat) : Vector Nat 7 :=
  Vector.ofFn fun b => mapLevel p (cycleLevel hists v)[b] (bounds r) p.bandCfg[b]

/-- `cycle(H, v, r) = (H', P)` (R140). -/
def cycle (p : Params) (hists : Vector Hist 7) (v : Vector Nat 7) (r : Nat) : Vector Hist 7 × Vector Nat 7 :=
  (cycleHist hists v, cyclePorts p hists v r)

/-- Periods of `reset_cycle()`: `N_RP + N_RS + 2` (R134). -/
def resetPeriods (p : Params) : Nat := p.nRp + p.nRs + 2

/-- Periods of the read of one band whose SAMP lasts `d` periods: `2 N_ST + 3 + d` (R135). -/
def bandPeriods (p : Params) (d : Nat) : Nat := 2 * p.nSt + 3 + d

/-- The period of the cycle, counted from RSTA, at which the read of band `b` begins when SAMP c lasts `d c` periods. -/
def bandStart (p : Params) (d : Nat → Nat) : Nat → Nat
  | 0 => resetPeriods p
  | b + 1 => bandStart p d b + bandPeriods p (d b)

/-- `T_cycle` (R178). -/
def cyclePeriods (p : Params) (d : Nat → Nat) (dp : Nat) : Nat :=
  p.nRp + p.nRs + 14 * p.nSt + 42 + (d 0 + d 1 + d 2 + d 3 + d 4 + d 5 + d 6) + dp

end Sys2Proof.Machine
end

