-- ==== Sys2Proof/Safety.lean ====
section
/-! DEFINITION. The terms claims are made in: runs, the environment's part in a run, the next-SEQ table of 40_sequencer.md
R86 as a table, and the invariant every reachable state meets (legal SEQ, line levels, timer range, register ranges, and
what the registers hold at each point of the cycle). -/

namespace Sys2Proof.Safety

open Sys2Proof.Machine

/-- `n` steps from `s` end in `t`: no refusal on the way. -/
def RunsTo (n : Nat) (s t : State) : Prop := Host.Core.run Sys2Proof.core n s = .next t

/-- `POR` is 0 at the next `n` edges. -/
abbrev NoPor (s : State) (n : Nat) : Prop := ∀ k, k < n → (s.inputAt k).por = false

/-- A conversion answered at the edges from the `k`-th coming one on: `ADC_DONE` is 0 at the first `d - 1` of them and 1 at
the `d`-th, where `ADC_DATA` is `v` (R39, R43). -/
abbrev Answers (s : State) (k d v : Nat) : Prop :=
  1 ≤ d ∧ (∀ j, j < d - 1 → (s.inputAt (k + j)).adcDone = false) ∧
  (s.inputAt (k + (d - 1))).adcDone = true ∧ s.adcDataAt (k + (d - 1)) = v

/-- The answers of one cycle that begins at the `k`-th coming edge: `v[b]` after `d b` periods of SAMP b, then `r` after `dp`
periods of SAMPP, and no `POR` in the whole cycle (R141). -/
abbrev CycleAnswers (s : State) (k : Nat) (d : Nat → Nat) (dp : Nat) (v : Vector Nat 7) (r : Nat) : Prop :=
  (∀ j, j < cyclePeriods s.cfg d dp → (s.inputAt (k + j)).por = false) ∧
  (∀ b : Band, Answers s (k + bandStart s.cfg d b.val + s.cfg.nSt + 2) (d b.val) v[b]) ∧
  Answers s (k + bandStart s.cfg d 7 + 2) dp r

/-- `i` is current in each of the first `n` periods from `s` and another micro-operation in the next one. -/
def LastsExactly (i : Instr) (n : Nat) (s : State) : Prop :=
  (∀ k, k < n → ∃ t, RunsTo k s t ∧ t.current = .ok i) ∧
  ∃ t j, RunsTo n s t ∧ t.current = .ok j ∧ j ≠ i

/-- The next-SEQ table of R86; `t0` stands for `TIMER == 0`, `done` for `IN.ADC_DONE == 1`. -/
def successor (t0 done : Bool) : Instr → Instr
  | .rsta => .wrp
  | .wrp => if t0 then .rstd else .wrp
  | .rstd => .wrs
  | .wrs => if t0 then .stba 0 else .wrs
  | .stba b => .wsa b
  | .wsa b => if t0 then .conv b else .wsa b
  | .conv b => .samp b
  | .samp b => if done then .stbd b else .samp b
  | .stbd b => .wsd b
  | .wsd b => if t0 then (if b.toNat < 6 then .stba (b + 1) else .selp) else .wsd b
  | .selp => .convp
  | .convp => .sampp
  | .sampp => if done then .selb else .sampp
  | .selb => .scale
  | .scale => .push 0
  | .push b => .map b
  | .map b => if b.toNat < 6 then .push (b + 1) else .rend
  | .rend => .rsta

/-- The reset line is asserted from the period after RSTA to RSTD (R88, R90). -/
def resetAsserted : Instr → Bool
  | .wrp | .rstd => true
  | .rsta | .wrs | .stba _ | .wsa _ | .conv _ | .samp _ | .stbd _ | .wsd _ | .selp | .convp | .sampp | .selb | .scale
  | .push _ | .map _ | .rend => false

/-- The strobe line is asserted from the period after STBA b to STBD b (R92, R96). -/
def strobeAsserted : Instr → Bool
  | .wsa _ | .conv _ | .samp _ | .stbd _ => true
  | .rsta | .wrp | .rstd | .wrs | .stba _ | .wsd _ | .selp | .convp | .sampp | .selb | .scale | .push _ | .map _
  | .rend => false

/-- The potentiometer channel is selected exactly in CONVP, SAMPP and SELB (R99). -/
def potSelected : Instr → Bool
  | .convp | .sampp | .selb => true
  | .rsta | .wrp | .rstd | .wrs | .stba _ | .wsa _ | .conv _ | .samp _ | .stbd _ | .wsd _ | .selp | .scale | .push _
  | .map _ | .rend => false

/-- The wait a micro-operation is, in periods; 1 for those that are no wait (R87, R26). -/
def waitPeriods (p : Params) : Instr → Nat
  | .wrp => p.nRp
  | .wrs => p.nRs
  | .wsa _ | .wsd _ => p.nSt
  | .rsta | .rstd | .stba _ | .conv _ | .samp _ | .stbd _ | .selp | .convp | .sampp | .selb | .scale | .push _ | .map _
  | .rend => 1

/-- How many bands have been pushed in the cycle when `i` is current (R84). -/
def pushedBands : Instr → Nat
  | .push b => b.toNat
  | .map b => b.toNat + 1
  | .rend => 7
  | .rsta | .wrp | .rstd | .wrs | .stba _ | .wsa _ | .conv _ | .samp _ | .stbd _ | .wsd _ | .selp | .convp | .sampp
  | .selb | .scale => 0

/-- How many bands have been mapped in the cycle when `i` is current (R84). -/
def mappedBands : Instr → Nat
  | .push b => b.toNat
  | .map b => b.toNat
  | .rend => 7
  | .rsta | .wrp | .rstd | .wrs | .stba _ | .wsa _ | .conv _ | .samp _ | .stbd _ | .wsd _ | .selp | .convp | .sampp
  | .selb | .scale => 0

/-- SCALE has run in the cycle when `i` is current (R84). -/
def scaled : Instr → Bool
  | .push _ | .map _ | .rend => true
  | .rsta | .wrp | .rstd | .wrs | .stba _ | .wsa _ | .conv _ | .samp _ | .stbd _ | .wsd _ | .selp | .convp | .sampp
  | .selb | .scale => false

/-- Strobe assertions since the last reset pulse when `i` is current; nothing is claimed in RSTA (R47, R100). -/
def StrobesSeen (n : Nat) : Instr → Prop
  | .rsta => True
  | .wrp | .rstd | .wrs => n = 0
  | .stba b => n = b.toNat
  | .wsa b | .conv b | .samp b | .stbd b | .wsd b => n = b.toNat + 1
  | .selp | .convp | .sampp | .selb | .scale | .push _ | .map _ | .rend => n = 7

/-- While a busy-wait is current the conversion it waits for is in flight, on the busy-wait's channel (R43, R99, R100). -/
def AdcWaits (a : Adc) : Instr → Prop
  | .samp _ => a.inFlight = true ∧ a.channel = some false
  | .sampp => a.inFlight = true ∧ a.channel = some true
  | .rsta | .wrp | .rstd | .wrs | .stba _ | .wsa _ | .conv _ | .stbd _ | .wsd _ | .selp | .convp | .selb | .scale
  | .push _ | .map _ | .rend => True

/-- LEGAL SEQ AND LINES: `SEQ` is legal, and the three lines stand where the current micro-operation says (R71, R99, R98). -/
def LinesOk (s : State) : Prop :=
  ∃ i, s.current = .ok i ∧ s.rstl = resetAsserted i ∧ s.stbl = strobeAsserted i ∧ s.chsel = potSelected i

/-- TIMER: below the length of the wait that is current, and 0 when none is (R26, R87). -/
def TimerOk (s : State) : Prop :=
  ∃ i, s.current = .ok i ∧ s.timer < waitPeriods s.cfg i

/-- WIDTHS: every register holds a value of its width (R9, R13 to R21, R26). -/
def WidthsOk (s : State) : Prop :=
  s.timer < 2 ^ s.cfg.timerW ∧
  (∀ b : Band, s.raw[b] < 2 ^ s.cfg.sampleW) ∧ s.potraw < 2 ^ s.cfg.sampleW ∧ s.pot < 2 ^ s.cfg.potW ∧
  (∀ i : Fin 5, s.bnd[i] < 2 ^ s.cfg.bndW) ∧
  (∀ b : Band, s.hist[b].h0 < 2 ^ s.cfg.sampleW ∧ s.hist[b].h1 < 2 ^ s.cfg.sampleW ∧
    s.hist[b].h2 < 2 ^ s.cfg.sampleW ∧ s.hist[b].h3 < 2 ^ s.cfg.sampleW) ∧
  (∀ b : Band, s.level[b] < 2 ^ s.cfg.sampleW) ∧
  (∀ b : Band, s.outpat[b] < 2 ^ s.cfg.outW) ∧ (∀ b : Band, s.port[b] < 2 ^ s.cfg.outW)

/-- DATA FLOW: what the data registers hold when `i` is current (R16, R19, R22, R131): after SCALE the boundaries belong to
POTRAW; a band already pushed has its sample in slot 3 and its level from its history; a band already mapped has the pattern
of its level; and every bus shows a pattern of its band's family. -/
def DataFlow (s : State) (i : Instr) : Prop :=
  (scaled i = true → s.pot = scalePot s.potraw ∧ s.bnd = boundaries s.pot) ∧
  (∀ b : Band, b.val < pushedBands i → s.hist[b].h3 = s.raw[b] ∧ s.level[b] = s.hist[b].avg) ∧
  (∀ b : Band, b.val < mappedBands i → s.outpat[b] = mapLevel s.cfg s.level[b] s.bnd s.cfg.bandCfg[b]) ∧
  (∀ b : Band, ∃ k, k ≤ 6 ∧ s.port[b] = pattern s.cfg s.cfg.bandCfg[b].family k)

/-- DATA FLOW at the current micro-operation. -/
def DataOk (s : State) : Prop := ∃ i, s.current = .ok i ∧ DataFlow s i

/-- THE ENVIRONMENT'S AGENTS as the pins show them (R43, R47, R99, R100). -/
def AgentsOk (s : State) : Prop :=
  ∃ i, s.current = .ok i ∧ StrobesSeen s.azSeen i ∧ AdcWaits s.adc i

/-- The whole invariant: parameters within R8's constraints and all of the above. -/
def Inv (s : State) : Prop :=
  s.cfg.Valid ∧ LinesOk s ∧ TimerOk s ∧ WidthsOk s ∧ DataOk s ∧ AgentsOk s

/-- Every register of the core, without the model's own fields, is the same in both states (R13). -/
def SameRegisters (s t : State) : Prop :=
  t.phase = s.phase ∧ t.band = s.band ∧ t.timer = s.timer ∧ t.rstl = s.rstl ∧ t.stbl = s.stbl ∧ t.chsel = s.chsel ∧
  t.raw = s.raw ∧ t.potraw = s.potraw ∧ t.pot = s.pot ∧ t.bnd = s.bnd ∧ t.hist = s.hist ∧ t.level = s.level ∧
  t.outpat = s.outpat ∧ t.port = s.port

/-- The data registers (R14 to R21) are the same in both states. -/
def SameData (s t : State) : Prop :=
  t.raw = s.raw ∧ t.potraw = s.potraw ∧ t.pot = s.pot ∧ t.bnd = s.bnd ∧ t.hist = s.hist ∧ t.level = s.level ∧
  t.outpat = s.outpat ∧ t.port = s.port

/-- `s'` differs from `s` at most in the registers whose reset value the spec leaves unspecified: RAW, POTRAW, POT, BND, LEVEL
and OUTPAT (R45, R161). -/
def SameButUnspecified (s s' : State) : Prop :=
  s' = { s with raw := s'.raw, potraw := s'.potraw, pot := s'.pot, bnd := s'.bnd, level := s'.level, outpat := s'.outpat }

/-- The samples `vs` pushed to band `b` one after another, each by PUSH b with the sample in RAW[b] (R112, R136). -/
def pushAll (b : Band) : List Nat → State → Host.Outcome State Fault Refusal
  | [], s => .next s
  | v :: vs, s =>
    match exec (.push (bandBits b)) (s.setRaw b v) with
    | .next t => pushAll b vs t
    | .fault f => .fault f
    | .refused r => .refused r

/-- The period at which cycle `n` of a run begins, cycle 0 at period 0 (R142, R178). -/
def cycleOffset (p : Params) (d : Nat → Nat → Nat) (dp : Nat → Nat) : Nat → Nat
  | 0 => 0
  | n + 1 => cycleOffset p d dp n + cyclePeriods p (d n) (dp n)

/-- `H_n` of R142: the history after `n` cycles from the all-zero history. -/
def runHist (v : Nat → Vector Nat 7) : Nat → Vector Hist 7
  | 0 => Vector.replicate 7 ⟨0, 0, 0, 0⟩
  | n + 1 => cycleHist (runHist v n) (v n)

/-- `P_n` of R142: the ports after `n` cycles from reset, all 0 before the first render. -/
def runPorts (p : Params) (v : Nat → Vector Nat 7) (r : Nat → Nat) : Nat → Vector Nat 7
  | 0 => Vector.replicate 7 0
  | n + 1 => cyclePorts p (runHist v n) (v n) (r n)

/-- The five boundaries are strictly ascending and the floor is below the lowest (R119). -/
abbrev Ascending (floor : Nat) (bnd : Vector Nat 5) : Prop :=
  floor < bnd[0] ∧ bnd[0] < bnd[1] ∧ bnd[1] < bnd[2] ∧ bnd[2] < bnd[3] ∧ bnd[3] < bnd[4]

/-- The ladder of R120: the condition the source gives for bucket `k`. -/
abbrev Ladder (level floor : Nat) (bnd : Vector Nat 5) (k : Nat) : Prop :=
  (k = 0 ∧ level ≤ floor) ∨
  (k = 1 ∧ floor < level ∧ level ≤ bnd[0]) ∨
  (k = 2 ∧ bnd[0] < level ∧ level ≤ bnd[1]) ∨
  (k = 3 ∧ bnd[1] < level ∧ level ≤ bnd[2]) ∨
  (k = 4 ∧ bnd[2] < level ∧ level ≤ bnd[3]) ∨
  (k = 5 ∧ bnd[3] < level ∧ level ≤ bnd[4]) ∨
  (k = 6 ∧ level > bnd[4])

/-- How many of the low `w` bits of `v` are 1. -/
def onesIn (w v : Nat) : Nat := (List.range w).countP fun j => v.testBit j

end Sys2Proof.Safety
end

