-- ==== Sys2Proof/Certificates/Slice0/Obligations.lean ====
section
/-! DEFINITION. The statements for the provers, taken from the numbered rules of spec/. Every statement is about every build
of the core within the constraints of 00_scope.md R8 (the parameters are a field of the state) and about every environment
(the inputs are a field of the state). A next state written as a record `{ s with … }` is the whole frame: every register
the record does not name is unchanged. Band operands are given by their index, `bandBits b` for `b` 0 to 6; the reserved
operand 7 has its own statement. -/

open Sys2Proof Sys2Proof.Machine Sys2Proof.Safety

/-! ### The step, the words, the order -/

/-- R85 (the spec's decisions D1, D2): with `POR` 0 and a legal SEQ the current micro-operation completes, and a step is its
writes with what the edge adds: one input used, the edge number, and what the environment's agents have been shown. -/
def Obligations.StepRunsCurrentMicroOperation : Prop :=
  ∀ (s : State) (i : Instr), s.input.por = false → s.current = .ok i →
    ∃ t, exec i s = .next t ∧
      step s = .next { t with
        inputs := s.inputs.tail
        edge   := s.edge + 1
        adc    := s.adc.edge s.adcStart s.chsel s.input.adcDone s.adcData
        azSeen := if s.rstl = false ∧ t.rstl = true then 0
                  else if s.stbl = false ∧ t.stbl = true then s.azSeen + 1 else s.azSeen }

/-- R72 (the spec's decision D19): a state whose SEQ is illegal has no step; it is refused, unless `POR` is 1. That `POR`
overrides an illegal word too is R85 and R161 ("from any state, legal or not") read together with R72: DEDUCED, log entry 9. -/
def Obligations.IllegalSeqIsRefused : Prop :=
  ∀ (s : State) (e : DecodeError), s.current = .error e →
    (s.input.por = false → step s = .refused (.illegalSeq e)) ∧ (s.input.por = true → ∃ t, step s = .next t)

/-- R71 and R72 (the spec's decisions D8, D19): a word is legal exactly when PHASE is at most 17 and BAND is 0 to 6 in a
banded and 0 in an unbanded micro-operation; 66 words are legal, 112, 8 and 70 are illegal for the three reasons. -/
def Obligations.LegalWordsCharacterised : Prop :=
  (∀ w : SeqWord, legalWord w = true ↔
    (phaseOfWord w).toNat ≤ 17 ∧
    ((phaseOfWord w).toNat ∈ [4, 5, 6, 7, 8, 9, 15, 16] → (bandOfWord w).toNat ≤ 6) ∧
    ((phaseOfWord w).toNat ∉ [4, 5, 6, 7, 8, 9, 15, 16] → (bandOfWord w).toNat = 0)) ∧
  ((List.range 256).countP fun n => legalWord (BitVec.ofNat 8 n)) = 66 ∧
  ((List.range 256).countP fun n => match decode (BitVec.ofNat 8 n) with | .error .reservedPhase => true | _ => false) = 112 ∧
  ((List.range 256).countP fun n => match decode (BitVec.ofNat 8 n) with | .error .bandSeven => true | _ => false) = 8 ∧
  ((List.range 256).countP fun n => match decode (BitVec.ofNat 8 n) with | .error .bandNotZero => true | _ => false) = 70

/-- R70: words written out bit by bit from the map decode to the micro-operations they stand for, one of every family. -/
def Obligations.SpecWordsDecode : Prop :=
  decode 0b00000000#8 = .ok .rsta ∧ decode 0b00011000#8 = .ok .wrs ∧ decode 0b00100010#8 = .ok (.stba 2) ∧
  decode 0b00111110#8 = .ok (.samp 6) ∧ decode 0b01001011#8 = .ok (.wsd 3) ∧ decode 0b01100000#8 = .ok .sampp ∧
  decode 0b01110000#8 = .ok .scale ∧ decode 0b01111101#8 = .ok (.push 5) ∧ decode 0b10000110#8 = .ok (.map 6) ∧
  decode 0b10001000#8 = .ok .rend ∧ decode 0b00100111#8 = .error .bandSeven ∧
  decode 0b00000001#8 = .error .bandNotZero ∧ decode 0b10010000#8 = .error .reservedPhase

/-- R67 to R71: decoding the word of any well-formed micro-operation gives it back, with its band operand. -/
def Obligations.DecodeOfEncodeIsIdentity : Prop :=
  ∀ i : Instr, i.wellFormed = true → decode (encode i) = .ok i

/-- R67 to R72: the other direction: a word that decodes is the word of the micro-operation it decodes to, which is well
formed, and is the number PHASE * 8 + BAND. -/
def Obligations.EncodeOfDecodeIsIdentity : Prop :=
  ∀ (w : SeqWord) (i : Instr), decode w = .ok i →
    encode i = w ∧ i.wellFormed = true ∧ w.toNat = (phaseCode i).toNat * 8 + (bandCode i).toNat

/-- R84 (the spec's decisions D7, D18): the wired program is these 66 words in this order, each followed by the next, the
last by the first, when every wait has run out and every conversion is done. -/
def Obligations.WiredProgramOrder : Prop :=
  wiredProgram.map (fun i => (encode i).toNat) =
    [0x00, 0x08, 0x10, 0x18,
     0x20, 0x28, 0x30, 0x38, 0x40, 0x48, 0x21, 0x29, 0x31, 0x39, 0x41, 0x49, 0x22, 0x2A, 0x32, 0x3A, 0x42, 0x4A,
     0x23, 0x2B, 0x33, 0x3B, 0x43, 0x4B, 0x24, 0x2C, 0x34, 0x3C, 0x44, 0x4C, 0x25, 0x2D, 0x35, 0x3D, 0x45, 0x4D,
     0x26, 0x2E, 0x36, 0x3E, 0x46, 0x4E,
     0x50, 0x58, 0x60, 0x68, 0x70,
     0x78, 0x80, 0x79, 0x81, 0x7A, 0x82, 0x7B, 0x83, 0x7C, 0x84, 0x7D, 0x85, 0x7E, 0x86,
     0x88] ∧
  wiredProgram.map (successor true true) = wiredProgram.tail ++ [.rsta]

/-- R85, R86 (the spec's decisions D1, D2, D7, D18): the step is total on legal states, and the next SEQ is the table's: a
function of the current micro-operation, `TIMER == 0` and `ADC_DONE`, and of nothing else. -/
def Obligations.NextSeqFollowsTable : Prop :=
  ∀ (s : State) (i : Instr), s.input.por = false → s.current = .ok i →
    ∃ t, step s = .next t ∧ t.current = .ok (successor (s.timer == 0) s.input.adcDone i)

/-! ### The ten micro-operations of the synchronizer -/

/-- R88: RSTA. The corner cases (RSTL is 0 when RSTA is current, STBL is 0 through the reset pulse) are the spec's derivation
and follow here from the line invariant. -/
def Obligations.RstaAssertsResetLine : Prop :=
  decode 0x00#8 = .ok .rsta ∧
  (∀ s : State, exec .rsta s = .next { s with rstl := true, timer := s.cfg.nRp - 1, phase := 1, band := 0 }) ∧
  (∀ s : State, s.current = .ok .rsta → s.input.por = false → LastsExactly .rsta 1 s) ∧
  (∀ (s t : State) (level : Bool), exec .rsta s = .next t → t.azResetAt level = level) ∧
  (∀ s : State, LinesOk s → s.current = .ok .rsta → s.rstl = false) ∧
  (∀ (s : State) (i : Instr), LinesOk s → s.current = .ok i → i ∈ [.rsta, .wrp, .rstd] → s.stbl = false)

/-- R89: WRP, its period, its length from the count RSTA loads, the time that is, and RSTL meanwhile. -/
def Obligations.WrpWaitsResetPulse : Prop :=
  decode 0x08#8 = .ok .wrp ∧
  (∀ s : State, s.timer = 0 → exec .wrp s = .next { s with phase := 2, band := 0 }) ∧
  (∀ s : State, s.timer ≠ 0 → exec .wrp s = .next { s with timer := s.timer - 1 }) ∧
  (∀ s : State, s.cfg.Valid → s.current = .ok .wrp → s.timer = s.cfg.nRp - 1 → NoPor s s.cfg.nRp →
    LastsExactly .wrp s.cfg.nRp s ∧ Params.LastsAtLeast s.cfg.nRp 10 s.cfg.fClk) ∧
  (∀ s : State, LinesOk s → s.current = .ok .wrp → s.rstl = true)

/-- R90: RSTD. -/
def Obligations.RstdDeassertsResetLine : Prop :=
  decode 0x10#8 = .ok .rstd ∧
  (∀ s : State, exec .rstd s = .next { s with rstl := false, timer := s.cfg.nRs - 1, phase := 3, band := 0 }) ∧
  (∀ s : State, s.current = .ok .rstd → s.input.por = false → LastsExactly .rstd 1 s) ∧
  (∀ (s t : State) (level : Bool), exec .rstd s = .next t → t.azResetAt level = !level)

/-- R91: WRS, its period, its length from the count RSTD loads, the time that is, and the two lines meanwhile. -/
def Obligations.WrsWaitsResetSettle : Prop :=
  decode 0x18#8 = .ok .wrs ∧
  (∀ s : State, s.timer = 0 → exec .wrs s = .next { s with phase := 4, band := 0 }) ∧
  (∀ s : State, s.timer ≠ 0 → exec .wrs s = .next { s with timer := s.timer - 1 }) ∧
  (∀ s : State, s.cfg.Valid → s.current = .ok .wrs → s.timer = s.cfg.nRs - 1 → NoPor s s.cfg.nRs →
    LastsExactly .wrs s.cfg.nRs s ∧ Params.LastsAtLeast s.cfg.nRs 80 s.cfg.fClk) ∧
  (∀ s : State, LinesOk s → s.current = .ok .wrs → s.rstl = false ∧ s.stbl = false)

/-- R92: STBA b. That STBL is 0 when STBA becomes current is the spec's derivation and follows here from the line invariant. -/
def Obligations.StbaAssertsStrobe : Prop :=
  ∀ b : Band,
    decode (0x20#8 + BitVec.ofNat 8 b.val) = .ok (.stba (bandBits b)) ∧
    (∀ s : State, exec (.stba (bandBits b)) s =
      .next { s with stbl := true, timer := s.cfg.nSt - 1, phase := 5, band := bandBits b }) ∧
    (∀ s : State, s.current = .ok (.stba (bandBits b)) → s.input.por = false → LastsExactly (.stba (bandBits b)) 1 s) ∧
    (∀ s t : State, exec (.stba (bandBits b)) s = .next t → t.azStrobe = false) ∧
    (∀ s : State, LinesOk s → s.current = .ok (.stba (bandBits b)) → s.stbl = false)

/-- R93: WSA b, its period, its length from the count STBA loads, the time that is, and STBL meanwhile. -/
def Obligations.WsaWaitsWithStrobeAsserted : Prop :=
  ∀ b : Band,
    decode (0x28#8 + BitVec.ofNat 8 b.val) = .ok (.wsa (bandBits b)) ∧
    (∀ s : State, s.timer = 0 → exec (.wsa (bandBits b)) s = .next { s with phase := 6, band := bandBits b }) ∧
    (∀ s : State, s.timer ≠ 0 → exec (.wsa (bandBits b)) s = .next { s with timer := s.timer - 1 }) ∧
    (∀ s : State, s.cfg.Valid → s.current = .ok (.wsa (bandBits b)) → s.timer = s.cfg.nSt - 1 → NoPor s s.cfg.nSt →
      LastsExactly (.wsa (bandBits b)) s.cfg.nSt s ∧ Params.LastsAtLeast s.cfg.nSt 40 s.cfg.fClk) ∧
    (∀ s : State, LinesOk s → s.current = .ok (.wsa (bandBits b)) → s.stbl = true)

/-- R94, R35, R36, R99 (the spec's decisions D10, D11, D25): CONV b writes SEQ only; ADC_START is 1 in this period, with the
band-output channel selected and the strobe pin low, and 0 in the next. -/
def Obligations.ConvStartsBandConversion : Prop :=
  ∀ b : Band,
    decode (0x30#8 + BitVec.ofNat 8 b.val) = .ok (.conv (bandBits b)) ∧
    (∀ s : State, exec (.conv (bandBits b)) s = .next { s with phase := 7, band := bandBits b }) ∧
    (∀ s : State, s.current = .ok (.conv (bandBits b)) → s.input.por = false → LastsExactly (.conv (bandBits b)) 1 s) ∧
    (∀ s : State, s.current = .ok (.conv (bandBits b)) → s.adcStart = true) ∧
    (∀ s t : State, exec (.conv (bandBits b)) s = .next t → t.adcStart = false) ∧
    (∀ s : State, LinesOk s → s.current = .ok (.conv (bandBits b)) → s.adcCh = false ∧ s.azStrobe = false)

/-- R95, R37, R38 (the spec's decisions D10, D35): SAMP b captures ADC_DATA into RAW[b] in the period it reads ADC_DONE = 1,
whatever the value, and otherwise stays with nothing changed; the strobe pin is low throughout. -/
def Obligations.SampCapturesBandSample : Prop :=
  ∀ b : Band,
    decode (0x38#8 + BitVec.ofNat 8 b.val) = .ok (.samp (bandBits b)) ∧
    (∀ s : State, s.input.adcDone = true → exec (.samp (bandBits b)) s =
      .next { s with raw := s.raw.set b (s.input.adcData % 2 ^ s.cfg.sampleW), phase := 8, band := bandBits b }) ∧
    (∀ s : State, s.input.adcDone = false → exec (.samp (bandBits b)) s = .next s) ∧
    (∀ s : State, LinesOk s → s.current = .ok (.samp (bandBits b)) → s.azStrobe = false ∧ s.adcCh = false)

/-- R96: STBD b. -/
def Obligations.StbdDeassertsStrobe : Prop :=
  ∀ b : Band,
    decode (0x40#8 + BitVec.ofNat 8 b.val) = .ok (.stbd (bandBits b)) ∧
    (∀ s : State, exec (.stbd (bandBits b)) s =
      .next { s with stbl := false, timer := s.cfg.nSt - 1, phase := 9, band := bandBits b }) ∧
    (∀ s : State, s.current = .ok (.stbd (bandBits b)) → s.input.por = false → LastsExactly (.stbd (bandBits b)) 1 s) ∧
    (∀ s t : State, exec (.stbd (bandBits b)) s = .next t → t.azStrobe = true)

/-- R97: WSD b, its period, the next band or the way out of the loop, its length from the count STBD loads, and STBL meanwhile. -/
def Obligations.WsdWaitsThenNextBand : Prop :=
  ∀ b : Band,
    decode (0x48#8 + BitVec.ofNat 8 b.val) = .ok (.wsd (bandBits b)) ∧
    (∀ s : State, s.timer ≠ 0 → exec (.wsd (bandBits b)) s = .next { s with timer := s.timer - 1 }) ∧
    (∀ s : State, s.timer = 0 → b.val < 6 → exec (.wsd (bandBits b)) s =
      .next { s with phase := 4, band := BitVec.ofNat 3 (b.val + 1) }) ∧
    (∀ s : State, s.timer = 0 → b.val = 6 → exec (.wsd (bandBits b)) s = .next { s with phase := 10, band := 0 }) ∧
    (∀ s : State, s.cfg.Valid → s.current = .ok (.wsd (bandBits b)) → s.timer = s.cfg.nSt - 1 → NoPor s s.cfg.nSt →
      LastsExactly (.wsd (bandBits b)) s.cfg.nSt s ∧ Params.LastsAtLeast s.cfg.nSt 40 s.cfg.fClk) ∧
    (∀ s : State, LinesOk s → s.current = .ok (.wsd (bandBits b)) → s.stbl = false)

/-! ### The five micro-operations of the scaler -/

/-- R102: SELP. The corner case (CHSEL is 0 when SELP becomes current) follows from the line invariant. -/
def Obligations.SelpSelectsPotentiometer : Prop :=
  decode 0x50#8 = .ok .selp ∧
  (∀ s : State, exec .selp s = .next { s with chsel := true, phase := 11, band := 0 }) ∧
  (∀ s : State, s.current = .ok .selp → s.input.por = false → LastsExactly .selp 1 s) ∧
  (∀ s t : State, exec .selp s = .next t → t.adcCh = true) ∧
  (∀ s : State, LinesOk s → s.current = .ok .selp → s.chsel = false)

/-- R103, R35, R36, R99 (the spec's decisions D10, D11, D20): CONVP writes SEQ only; ADC_START is 1 in this period, with the
potentiometer channel selected, and 0 in the next. -/
def Obligations.ConvpStartsPotConversion : Prop :=
  decode 0x58#8 = .ok .convp ∧
  (∀ s : State, exec .convp s = .next { s with phase := 12, band := 0 }) ∧
  (∀ s : State, s.current = .ok .convp → s.input.por = false → LastsExactly .convp 1 s) ∧
  (∀ s : State, s.current = .ok .convp → s.adcStart = true) ∧
  (∀ s t : State, exec .convp s = .next t → t.adcStart = false) ∧
  (∀ s : State, LinesOk s → s.current = .ok .convp → s.adcCh = true)

/-- R104, R37, R38 (the spec's decisions D10, D35): SAMPP captures ADC_DATA into POTRAW in the period it reads ADC_DONE = 1,
and otherwise stays with nothing changed. -/
def Obligations.SamppCapturesPotSample : Prop :=
  decode 0x60#8 = .ok .sampp ∧
  (∀ s : State, s.input.adcDone = true → exec .sampp s =
    .next { s with potraw := s.input.adcData % 2 ^ s.cfg.sampleW, phase := 13, band := 0 }) ∧
  (∀ s : State, s.input.adcDone = false → exec .sampp s = .next s) ∧
  (∀ s : State, LinesOk s → s.current = .ok .sampp → s.azStrobe = true ∧ s.adcCh = true)

/-- R105: SELB; from then on CHSEL stays 0 until the next SELP, the only micro-operation that sets it; and SELB cannot be
skipped: SCALE is reached from nowhere else. -/
def Obligations.SelbRestoresBandChannel : Prop :=
  decode 0x68#8 = .ok .selb ∧
  (∀ s : State, exec .selb s = .next { s with chsel := false, phase := 14, band := 0 }) ∧
  (∀ s : State, s.current = .ok .selb → s.input.por = false → LastsExactly .selb 1 s) ∧
  (∀ s t : State, exec .selb s = .next t → t.adcCh = false) ∧
  (∀ (i : Instr) (s t : State), exec i s = .next t → s.chsel = false → t.chsel = true → i = .selp) ∧
  (∀ s t : State, s.input.por = false → step s = .next t → t.current = .ok .scale → s.current = .ok .selb)

/-- R106: SCALE, `p = POTRAW >> 3` and the five boundaries, exact in their widths. -/
def Obligations.ScaleComputesBoundaries : Prop :=
  decode 0x70#8 = .ok .scale ∧
  (∀ s : State, exec .scale s = .next { s with
    pot := s.potraw / 8
    bnd := #v[110 + s.potraw / 8, 120 + s.potraw / 8, 130 + s.potraw / 8, 140 + s.potraw / 8, 150 + s.potraw / 8]
    phase := 15
    band := 0 }) ∧
  (∀ s : State, s.current = .ok .scale → s.input.por = false → LastsExactly .scale 1 s) ∧
  (∀ s : State, s.cfg.Valid → s.potraw < 2 ^ s.cfg.sampleW →
    s.potraw / 8 ≤ 2 ^ (s.cfg.sampleW - 3) - 1 ∧ 150 + s.potraw / 8 < 2 ^ s.cfg.bndW)

/-! ### The filter, the mapper, the render -/

/-- R110: PUSH b: the four slots shift together, RAW[b] enters slot 3, slot 0 is discarded, and LEVEL[b] is a quarter of the
new history's sum, truncated, which fits SAMPLE_W bits; the sum fits SUM_W bits. -/
def Obligations.PushShiftsAndAverages : Prop :=
  ∀ b : Band,
    decode (0x78#8 + BitVec.ofNat 8 b.val) = .ok (.push (bandBits b)) ∧
    (∀ s : State, exec (.push (bandBits b)) s = .next { s with
      hist  := s.hist.set b ⟨s.hist[b].h1, s.hist[b].h2, s.hist[b].h3, s.raw[b]⟩
      level := s.level.set b ((s.hist[b].h1 + s.hist[b].h2 + s.hist[b].h3 + s.raw[b]) / 4)
      phase := 16
      band  := bandBits b }) ∧
    (∀ s : State, s.current = .ok (.push (bandBits b)) → s.input.por = false → LastsExactly (.push (bandBits b)) 1 s) ∧
    (∀ s : State, WidthsOk s →
      s.hist[b].h1 + s.hist[b].h2 + s.hist[b].h3 + s.raw[b] < 2 ^ s.cfg.sumW ∧
      (s.hist[b].h1 + s.hist[b].h2 + s.hist[b].h3 + s.raw[b]) / 4 < 2 ^ s.cfg.sampleW)

/-- R127: MAP b: the pattern of the band's family for the bucket of its level over its floor and the boundaries, then the
next band's PUSH, or REND after band 6. The level is the one PUSH b left and the boundaries are SCALE's, by the data-flow part
of the invariant. The source's scenario is its example. -/
def Obligations.MapWritesPattern : Prop :=
  (∀ b : Band,
    decode (0x80#8 + BitVec.ofNat 8 b.val) = .ok (.map (bandBits b)) ∧
    (∀ s : State, b.val < 6 → exec (.map (bandBits b)) s = .next { s with
      outpat := s.outpat.set b (pattern s.cfg s.cfg.bandCfg[b].family (bucket s.level[b] s.cfg.bandCfg[b].floor s.bnd))
      phase  := 15
      band   := BitVec.ofNat 3 (b.val + 1) }) ∧
    (∀ s : State, b.val = 6 → exec (.map (bandBits b)) s = .next { s with
      outpat := s.outpat.set b (pattern s.cfg s.cfg.bandCfg[b].family (bucket s.level[b] s.cfg.bandCfg[b].floor s.bnd))
      phase  := 17
      band   := 0 }) ∧
    (∀ s : State, s.current = .ok (.map (bandBits b)) → s.input.por = false → LastsExactly (.map (bandBits b)) 1 s) ∧
    (∀ s : State, DataOk s → s.current = .ok (.map (bandBits b)) →
      s.hist[b].h3 = s.raw[b] ∧ s.level[b] = s.hist[b].avg ∧ s.bnd = boundaries (scalePot s.potraw))) ∧
  comparators 125 100 #v[110, 120, 130, 140, 150] = #v[true, true, true, false, false, false] ∧
  bucket 125 100 #v[110, 120, 130, 140, 150] = 3 ∧
  mapLevel Params.default 125 #v[110, 120, 130, 140, 150] ⟨.a, 100⟩ = 0b00000111

/-- R129 (the spec's decision D17: all seven at the same edge): REND writes every PORT register from OUTPAT and goes back to
RSTA; the buses show the patterns from the next period on. -/
def Obligations.RendWritesAllPorts : Prop :=
  decode 0x88#8 = .ok .rend ∧
  (∀ s : State, exec .rend s = .next { s with port := s.outpat, phase := 0, band := 0 }) ∧
  (∀ s : State, s.current = .ok .rend → s.input.por = false → LastsExactly .rend 1 s) ∧
  (∀ (s t : State) (b : Band), exec .rend s = .next t → t.led b = s.outpat[b])

/-- R52, R72, R136 (the spec's decisions D19, D33): the reserved band operand 7 is refused by every banded micro-operation;
every well-formed micro-operation answers a next state in every state. -/
def Obligations.BandSevenIsRefused : Prop :=
  ∀ (i : Instr) (s : State),
    (i.wellFormed = false → exec i s = .refused .illegalBand) ∧ (i.wellFormed = true → ∃ t, exec i s = .next t)

/-! ### Frames -/

/-- R22, R13 (the access matrix is the spec's derivation): every data register is written by its one micro-operation only, in
the element of its band only; the parameters and the environment's fields are written by none. -/
def Obligations.DataRegistersHaveOneWriter : Prop :=
  ∀ (i : Instr) (s t : State), exec i s = .next t →
    (∀ b : Band, t.raw[b] ≠ s.raw[b] → i = .samp (bandBits b)) ∧
    (t.potraw ≠ s.potraw → i = .sampp) ∧
    (t.pot ≠ s.pot ∨ t.bnd ≠ s.bnd → i = .scale) ∧
    (∀ b : Band, t.hist[b] ≠ s.hist[b] ∨ t.level[b] ≠ s.level[b] → i = .push (bandBits b)) ∧
    (∀ b : Band, t.outpat[b] ≠ s.outpat[b] → i = .map (bandBits b)) ∧
    (t.port ≠ s.port → i = .rend) ∧
    t.cfg = s.cfg ∧ t.inputs = s.inputs ∧ t.edge = s.edge ∧ t.adc = s.adc ∧ t.azSeen = s.azSeen

/-- R25, R26, R29, R30, R31: the control registers' only writers; BAND, for the micro-operation that is current, changes in
WSD and MAP only, where it is incremented below 6 and cleared at 6. -/
def Obligations.ControlRegistersHaveTheirWriters : Prop :=
  ∀ (i : Instr) (s t : State), exec i s = .next t →
    (t.rstl ≠ s.rstl → i = .rsta ∨ i = .rstd) ∧
    (t.stbl ≠ s.stbl → ∃ b : Band, i = .stba (bandBits b) ∨ i = .stbd (bandBits b)) ∧
    (t.chsel ≠ s.chsel → i = .selp ∨ i = .selb) ∧
    (t.timer ≠ s.timer → i ∈ [.rsta, .wrp, .rstd, .wrs] ∨
      ∃ b : Band, i ∈ [.stba (bandBits b), .wsa (bandBits b), .stbd (bandBits b), .wsd (bandBits b)]) ∧
    (s.current = .ok i → t.band ≠ s.band →
      ∃ b : Band, (i = .wsd (bandBits b) ∨ i = .map (bandBits b)) ∧
        ((b.val < 6 ∧ t.band.toNat = b.val + 1) ∨ (b.val = 6 ∧ t.band = 0)))

/-! ### Waits, hangs, the ADC -/

/-- R87 (the spec's decision D9): from any TIMER value a wait stays current while TIMER counts down through every value to 0
and leaves to its successor with TIMER 0, nothing else changed in the core; loaded with N - 1 it is N periods. -/
def Obligations.WaitCountsDownToZero : Prop :=
  ∀ (s : State) (i : Instr), s.current = .ok i →
    (i = .wrp ∨ i = .wrs ∨ ∃ b : Band, i = .wsa (bandBits b) ∨ i = .wsd (bandBits b)) → NoPor s (s.timer + 1) →
    (∀ k, k ≤ s.timer → ∃ t, RunsTo k s t ∧ SameRegisters { s with timer := s.timer - k } t) ∧
    ∃ t, RunsTo (s.timer + 1) s t ∧ t.current = .ok (successor true false i) ∧ t.timer = 0 ∧
      SameData s t ∧ t.rstl = s.rstl ∧ t.stbl = s.stbl ∧ t.chsel = s.chsel

/-- R144: the hang. While the ADC does not answer and `POR` stays 0, a busy-wait changes no register and no pin, for any
number of periods, with no fault; when the ADC then answers, the core goes on from there; `POR` ends it, and clears HIST and
PORT (R161, R165; the spec's decisions D2 and D16). -/
def Obligations.HangHoldsEverything : Prop :=
  ∀ (s : State) (n : Nat) (i : Instr), s.current = .ok i → ((∃ b : Band, i = .samp (bandBits b)) ∨ i = .sampp) →
    (∀ k, k < n → (s.inputAt k).por = false ∧ (s.inputAt k).adcDone = false) →
    ∃ t, RunsTo n s t ∧ SameRegisters s t ∧ (∀ level, t.pinsAt level = s.pinsAt level) ∧ t.adcStart = false ∧
      (LinesOk s → t.adcCh = (i == .sampp) ∧ t.azStrobe = (i == .sampp)) ∧
      (t.input.por = false → t.input.adcDone = true → ∃ u, step t = .next u ∧ u.current = .ok (successor false true i)) ∧
      (t.input.por = true → ∃ u, step t = .next u ∧ u.current = .ok .rsta ∧
        u.hist = Vector.replicate 7 ⟨0, 0, 0, 0⟩ ∧ u.port = Vector.replicate 7 0)

/-- R39 (the spec's decision D10, an assumption on the environment): when the ADC keeps its handshake contract, the busy-wait
after a start lasts at least two periods. -/
def Obligations.ContractMakesSampleLastTwoPeriods : Prop :=
  ∀ (s t : State) (i : Instr), s.current = .ok i → s.adcStart = true → s.input.por = false → step s = .next t →
    t.input.por = false → t.adcKeepsContract = true →
    ∃ u, step t = .next u ∧ u.current = t.current ∧ SameRegisters t u

/-- R39 (e): without `POR` the core never drives ADC_START while a conversion it started has not been seen complete: a
conversion in flight is always being waited for. -/
def Obligations.NoStartWhileConversionInFlight : Prop :=
  (∀ (s t : State), LinesOk s → s.input.por = false → step s = .next t →
    (s.adc.inFlight = true → (∃ b : Band, s.current = .ok (.samp (bandBits b))) ∨ s.current = .ok .sampp) →
    (t.adc.inFlight = true → (∃ b : Band, t.current = .ok (.samp (bandBits b))) ∨ t.current = .ok .sampp)) ∧
  (∀ s : State,
    (s.adc.inFlight = true → (∃ b : Band, s.current = .ok (.samp (bandBits b))) ∨ s.current = .ok .sampp) →
    s.adcStart = true → s.adc.inFlight = false)

/-! ### Reset -/

/-- R161, R45, R42 (the spec's decisions D2, D16): a sampled `POR` gives the reset state from any state, legal or not, in
every register for which the spec gives a reset value; nothing is said of the six it leaves unspecified. -/
def Obligations.PorForcesResetState : Prop :=
  ∀ s : State, s.input.por = true → ∃ t, step s = .next t ∧
    t.phase = 0 ∧ t.band = 0 ∧ t.timer = 0 ∧ t.rstl = false ∧ t.stbl = false ∧ t.chsel = false ∧
    (∀ b : Band, t.hist[b] = ⟨0, 0, 0, 0⟩) ∧ (∀ b : Band, t.port[b] = 0) ∧ t.current = .ok .rsta ∧ t.cfg = s.cfg

/-- R162, R45 (the spec's derivation from D11 to D13, D16): the pins in the reset state of every build, for both reset
polarities. -/
def Obligations.PinsAtReset : Prop :=
  ∀ (p : Params) (level : Bool),
    (State.resetFor p).pinsAt level = ⟨false, false, !level, true, Vector.replicate 7 0⟩ ∧
    (State.resetFor p).current = .ok .rsta ∧ State.reset = State.resetFor Params.default

/-- R164 (the spec's derivation): the values of the six registers without a reset value never influence a pin: two runs that
start at RSTA and differ in those registers only show the same pins, position, timer and history at every period. -/
def Obligations.UnspecifiedRegistersNeverShow : Prop :=
  ∀ (n : Nat) (s s' t : State), s.current = .ok .rsta → SameButUnspecified s s' → RunsTo n s t →
    ∃ t', RunsTo n s' t' ∧ (∀ level, t'.pinsAt level = t.pinsAt level) ∧
      t'.current = t.current ∧ t'.timer = t.timer ∧ t'.hist = t.hist

/-! ### Invariants -/

/-- The invariant holds right after reset, in the model's reset state and in that of every build within R8's constraints. The
data-flow part claims a register only after its write in the cycle; of the six registers without a reset value in the spec
(log entry 1) only the width part speaks, and every value that fits would do. -/
def Obligations.ResetMeetsInvariant : Prop :=
  Inv State.reset ∧ ∀ p : Params, p.Valid → Inv (State.resetFor p)

/-- Every step, `POR` included, keeps the invariant, from every state that meets it: parameters within R8, legal SEQ and line
levels (R71, R99), TIMER (R26), register widths (R9), data flow (R16, R22), agents (R100). -/
def Obligations.StepKeepsInvariant : Prop :=
  ∀ s t : State, Inv s → step s = .next t → Inv t

/-- R99, R31, R170 (the spec's derivation): the line part of the invariant is kept by every step on its own, and in every
state that meets it a start pulse selects the band-output channel in CONV and the potentiometer channel in CONVP, and the
reset line and the strobe line are not both asserted (R98). -/
def Obligations.ChannelSelectorDiscipline : Prop :=
  (∀ s t : State, LinesOk s → step s = .next t → LinesOk t) ∧
  (∀ s : State, LinesOk s → s.adcStart = true → s.adcCh = (s.current matches .ok .convp)) ∧
  (∀ s : State, LinesOk s → ¬(s.rstl = true ∧ s.stbl = true))

/-- R9, R114, R108 (the spec's derivation): with valid parameters no register ever holds a value wider than it is, whatever
the ADC delivers and whatever SEQ. -/
def Obligations.RegistersKeepTheirWidths : Prop :=
  ∀ s t : State, s.cfg.Valid → WidthsOk s → step s = .next t → WidthsOk t

/-- R100, R47: the analyzer IC has been shown exactly b + 1 strobe assertions since the reset pulse when the band sample b is
awaited, and the conversion awaited was started on the right channel: kept by every step of a state with legal lines. -/
def Obligations.BandIdentityIsKept : Prop :=
  ∀ s t : State, LinesOk s → AgentsOk s → step s = .next t → AgentsOk t

/-! ### The filter's laws -/

/-- R112 (the spec's derivation): after four or more pushes to a band its history is the last four samples, oldest first, its
level their truncated mean, and no other band is touched; after fewer pushes since reset the history is padded with zeros. -/
def Obligations.FifoHoldsLastFour : Prop :=
  (∀ (s : State) (b : Band) (vs : List Nat) (w x y z : Nat),
    ∃ t, pushAll b (vs ++ [w, x, y, z]) s = .next t ∧ t.hist[b] = ⟨w, x, y, z⟩ ∧ t.level[b] = (w + x + y + z) / 4 ∧
      ∀ c : Band, c ≠ b → t.hist[c] = s.hist[c] ∧ t.level[c] = s.level[c] ∧ t.raw[c] = s.raw[c]) ∧
  (∀ (s : State) (b : Band) (x y z : Nat), s.hist[b] = ⟨0, 0, 0, 0⟩ →
    (∃ t, pushAll b [z] s = .next t ∧ t.hist[b] = ⟨0, 0, 0, z⟩) ∧
    (∃ t, pushAll b [y, z] s = .next t ∧ t.hist[b] = ⟨0, 0, y, z⟩) ∧
    (∃ t, pushAll b [x, y, z] s = .next t ∧ t.hist[b] = ⟨0, x, y, z⟩))

/-- R113 (the spec's derivation): four pushes of a constant give exactly that level from any history; the step response from
a constant history is the spec's. -/
def Obligations.FilterConverges : Prop :=
  (∀ (s : State) (b : Band) (v : Nat), ∃ t, pushAll b [v, v, v, v] s = .next t ∧ t.level[b] = v) ∧
  (∀ (s : State) (b : Band) (u v : Nat), s.hist[b] = ⟨u, u, u, u⟩ →
    (∃ t, pushAll b [v] s = .next t ∧ t.level[b] = (3 * u + v) / 4) ∧
    (∃ t, pushAll b [v, v] s = .next t ∧ t.level[b] = (2 * u + 2 * v) / 4) ∧
    (∃ t, pushAll b [v, v, v] s = .next t ∧ t.level[b] = (u + 3 * v) / 4))

/-- R111 (the spec's derivation): the average lies between the least and the greatest slot, is monotone, and moves by 0 or 1
when a slot moves by 1 and by exactly 1 when a slot moves by 4. -/
def Obligations.AverageLaws : Prop :=
  (∀ h : Hist, min (min h.h0 h.h1) (min h.h2 h.h3) ≤ h.avg ∧ h.avg ≤ max (max h.h0 h.h1) (max h.h2 h.h3)) ∧
  (∀ h k : Hist, h.h0 ≤ k.h0 → h.h1 ≤ k.h1 → h.h2 ≤ k.h2 → h.h3 ≤ k.h3 → h.avg ≤ k.avg) ∧
  (∀ a b c d : Nat, (Hist.mk a b c (d + 1)).avg = (Hist.mk a b c d).avg ∨
    (Hist.mk a b c (d + 1)).avg = (Hist.mk a b c d).avg + 1) ∧
  (∀ a b c d : Nat, (Hist.mk a b c (d + 4)).avg = (Hist.mk a b c d).avg + 1) ∧
  (∀ a b c d : Nat, (Hist.mk a b c d).avg = (Hist.mk b a c d).avg ∧ (Hist.mk a b c d).avg = (Hist.mk b c d a).avg)

/-! ### The scaler's and the mapper's laws -/

/-- R107 (the spec's derivation): after every SCALE the boundaries rise by 10, the lowest is at least 110 and so above every
allowed floor, each less POT is a constant, and raising POTRAW by 8 raises each by 1, by less than 8 raises each by 0 or 1. -/
def Obligations.BoundaryLaws : Prop :=
  (∀ s t : State, exec .scale s = .next t →
    Ascending 109 t.bnd ∧ t.bnd[1] = t.bnd[0] + 10 ∧ t.bnd[2] = t.bnd[1] + 10 ∧ t.bnd[3] = t.bnd[2] + 10 ∧
    t.bnd[4] = t.bnd[3] + 10 ∧ (∀ i : Fin 5, t.bnd[i] = t.pot + (110 + 10 * i.val)) ∧
    (s.cfg.Valid → ∀ b : Band, s.cfg.bandCfg[b].floor < t.bnd[0])) ∧
  (∀ (s t t' : State) (e : Nat), exec .scale s = .next t → exec .scale { s with potraw := s.potraw + e } = .next t' →
    ∀ i : Fin 5,
      (e = 8 → t'.bnd[i] = t.bnd[i] + 1) ∧
      (e < 8 → t'.bnd[i] = t.bnd[i] + (if s.potraw % 8 + e ≥ 8 then 1 else 0)))

/-- R118 to R121, R175: for a floor below ascending boundaries the comparator outputs are a thermometer code, and the number
of ones is the one bucket whose ladder condition holds. -/
def Obligations.BucketIsTheLadder : Prop :=
  ∀ (level floor : Nat) (bnd : Vector Nat 5), Ascending floor bnd →
    (∀ j k : Fin 6, j ≤ k → (comparators level floor bnd)[k] = true → (comparators level floor bnd)[j] = true) ∧
    (∀ k : Nat, Ladder level floor bnd k ↔ k = bucket level floor bnd)

/-- R118: the six comparators, all strict greater-than on natural numbers, against the floor and the five boundaries; a
comparator output is 0 exactly when the level is at most its threshold. -/
def Obligations.ComparatorsAreStrict : Prop :=
  ∀ (level floor : Nat) (bnd : Vector Nat 5),
    ((comparators level floor bnd)[0] = true ↔ level > floor) ∧
    (∀ j : Fin 5, (comparators level floor bnd)[j.val + 1] = true ↔ level > bnd[j]) ∧
    ((comparators level floor bnd)[0] = false ↔ level ≤ floor) ∧
    (∀ j : Fin 5, (comparators level floor bnd)[j.val + 1] = false ↔ level ≤ bnd[j])

/-- R122, R155 (the spec's derivation): with boundaries of POT `p` the bucket does not fall as the level rises and does not rise
as POT rises, and bucket 6 begins exactly above 150 + p. -/
def Obligations.BucketIsMonotone : Prop :=
  ∀ (level floor p : Nat), floor < 110 →
    (∀ level', level ≤ level' → bucket level floor (boundaries p) ≤ bucket level' floor (boundaries p)) ∧
    (∀ p', p ≤ p' → bucket level floor (boundaries p') ≤ bucket level floor (boundaries p)) ∧
    (bucket level floor (boundaries p) = 6 ↔ 151 + p ≤ level) ∧ (bucket level floor (boundaries p) = 0 ↔ level ≤ floor)

/-- R77, R78, R124, R125 (Family B's shape is the spec's decision D15): Family A sets exactly bits 0 to k - 1, Family B exactly
the k bits from B_ANCHOR downward, so each sets exactly k bits of the bus and bucket 0 is dark. -/
def Obligations.PatternBits : Prop :=
  ∀ (p : Params) (k : Nat), p.Valid → k ≤ 6 →
    (∀ j, (pattern p .a k).testBit j = decide (j < k)) ∧
    (∀ j, (pattern p .b k).testBit j = decide (j ≤ p.bAnchor ∧ p.bAnchor < j + k)) ∧
    (∀ f : Family, onesIn p.outW (pattern p f k) = k ∧ pattern p f k < 2 ^ p.outW)

/-- R77: the Family A table: every row, the formula, the width, and the source's three examples for a band with floor 100. -/
def Obligations.FamilyATable : Prop :=
  [patA 0, patA 1, patA 2, patA 3, patA 4, patA 5, patA 6] = [0, 1, 3, 7, 15, 31, 63] ∧
  (∀ (p : Params) (k : Nat), pattern p .a k = patA k ∧ pattern p .a k = 2 ^ k - 1) ∧
  (∀ (p : Params) (k j : Nat), p.Valid → k ≤ 6 →
    pattern p .a k < 2 ^ p.outW ∧ ((pattern p .a k).testBit j = true ↔ j < k)) ∧
  (∀ p : Params,
    mapLevel p 100 (bounds 0) ⟨.a, 100⟩ = 0 ∧ mapLevel p 125 (bounds 0) ⟨.a, 100⟩ = 7 ∧
    mapLevel p 151 (bounds 0) ⟨.a, 100⟩ = 63)

/-- R117: the mapper is a pure function of the band's level, the boundaries and the band's wired constants, one and the same
for all seven bands: MAP b in one state and MAP b' in another give the same pattern when these three agree, whatever else
differs, the old patterns included. -/
def Obligations.MapperHasNoMemory : Prop :=
  ∀ (b b' : Band) (s s' t t' : State), s.level[b] = s'.level[b'] → s.bnd = s'.bnd →
    s.cfg.bandCfg[b] = s'.cfg.bandCfg[b'] → s.cfg.bAnchor = s'.cfg.bAnchor →
    exec (.map (bandBits b)) s = .next t → exec (.map (bandBits b')) s' = .next t' → t.outpat[b] = t'.outpat[b']

/-- R130 (the spec's derivation): a band whose level is at most its floor, level 0 above all, is mapped to pattern 0, for every
family, floor and potentiometer value; and a cycle of zero samples over zero histories renders seven zero patterns. -/
def Obligations.SilenceIsDark : Prop :=
  (∀ (b : Band) (s : State) (p : Nat), s.cfg.Valid → s.bnd = boundaries p → s.level[b] ≤ s.cfg.bandCfg[b].floor →
    ∃ t, exec (.map (bandBits b)) s = .next t ∧ t.outpat[b] = 0) ∧
  (∀ (p : Params) (r : Nat), p.Valid →
    cycle p (Vector.replicate 7 ⟨0, 0, 0, 0⟩) (Vector.replicate 7 0) r =
      (Vector.replicate 7 ⟨0, 0, 0, 0⟩, Vector.replicate 7 0))

/-! ### Runs -/

/-- R59 (the spec's derivation): at one edge without `POR` at most one of the reset line, the strobe line, the channel pin and
the group of seven buses changes; ADC_START changes together with another pin only at the edge that ends SELP. -/
def Obligations.PinsChangeOneAtATime : Prop :=
  ∀ (s t : State) (level : Bool), LinesOk s → s.input.por = false → step s = .next t →
    (if t.azResetAt level ≠ s.azResetAt level then 1 else 0) + (if t.azStrobe ≠ s.azStrobe then 1 else 0) +
      (if t.adcCh ≠ s.adcCh then 1 else 0) + (if t.port ≠ s.port then 1 else 0) ≤ 1 ∧
    (t.adcStart ≠ s.adcStart →
      (t.azResetAt level ≠ s.azResetAt level ∨ t.azStrobe ≠ s.azStrobe ∨ t.adcCh ≠ s.adcCh ∨ t.port ≠ s.port) →
      s.current = .ok .selp) ∧
    (t.port ≠ s.port → s.current = .ok .rend)

/-- R134, R98 (the spec's derivation): reset_cycle() takes N_RP + N_RS + 2 periods, asserts the reset line in periods 1 to
N_RP + 1 exactly, and changes no data register. -/
def Obligations.ResetCycleMacro : Prop :=
  ∀ s : State, s.cfg.Valid → s.current = .ok .rsta → s.rstl = false → NoPor s (resetPeriods s.cfg) →
    (∃ t, RunsTo (s.cfg.nRp + s.cfg.nRs + 2) s t ∧ t.current = .ok (.stba 0) ∧ t.timer = 0) ∧
    (∀ (k : Nat) (u : State), k ≤ s.cfg.nRp + s.cfg.nRs + 2 → RunsTo k s u →
      (u.rstl = true ↔ 1 ≤ k ∧ k ≤ s.cfg.nRp + 1) ∧ SameData s u ∧ u.stbl = s.stbl ∧ u.chsel = s.chsel)

/-- R135, R98 (the spec's derivation): the read of band b takes 2 N_ST + 3 + d periods, holds the strobe asserted in periods 1
to N_ST + 2 + d exactly, starts one conversion, in period N_ST + 1, and changes no data register but RAW[b], which gets the
ADC's answer. -/
def Obligations.BandReadMacro : Prop :=
  ∀ (s : State) (b : Band) (d v : Nat), s.cfg.Valid → s.current = .ok (.stba (bandBits b)) → s.stbl = false →
    NoPor s (bandPeriods s.cfg d) → Answers s (s.cfg.nSt + 2) d v →
    (∃ t, RunsTo (2 * s.cfg.nSt + 3 + d) s t ∧ t.current = .ok (nextBand b .stba .selp) ∧ t.timer = 0 ∧
      SameData { s with raw := s.raw.set b v } t) ∧
    (∀ (k : Nat) (u : State), k ≤ 2 * s.cfg.nSt + 3 + d → RunsTo k s u →
      (u.stbl = true ↔ 1 ≤ k ∧ k ≤ s.cfg.nSt + 2 + d) ∧ (u.adcStart = true ↔ k = s.cfg.nSt + 1) ∧
      u.rstl = s.rstl ∧ u.chsel = s.chsel)

/-- R137, R98 (the spec's derivation): rescale() takes 4 + d periods, holds the potentiometer channel in periods 1 to 2 + d
exactly, starts one conversion, in period 1, and leaves POTRAW, POT and BND as the pure function says. -/
def Obligations.RescaleMacro : Prop :=
  ∀ (s : State) (d r : Nat), s.current = .ok .selp → s.chsel = false → NoPor s (4 + d) → Answers s 2 d r →
    (∃ t, RunsTo (4 + d) s t ∧ t.current = .ok (.push 0) ∧
      SameData { s with potraw := r, pot := r / 8, bnd := bounds r } t ∧ t.timer = s.timer) ∧
    (∀ (k : Nat) (u : State), k ≤ 4 + d → RunsTo k s u →
      (u.chsel = true ↔ 1 ≤ k ∧ k ≤ 2 + d) ∧ (u.adcStart = true ↔ k = 1) ∧ u.rstl = s.rstl ∧ u.stbl = s.stbl)

/-- R141, R140, R178 (the spec's derivation): THE CONTROL LOOP COMPUTES THE CYCLE FUNCTION. From any state at RSTA with valid
parameters, whatever its registers, if the ADC answers the eight conversions with v[0..6] and r and `POR` stays 0, then after
exactly T_cycle periods the core is at RSTA again with the history and the ports `cycle` gives, every other register as the
rule lists it, and the ports held their old value until the last edge. -/
def Obligations.ControlLoopComputesCycle : Prop :=
  ∀ (s : State) (d : Nat → Nat) (dp : Nat) (v : Vector Nat 7) (r : Nat),
    s.cfg.Valid → s.current = .ok .rsta → CycleAnswers s 0 d dp v r →
    (∃ t, RunsTo (cyclePeriods s.cfg d dp) s t ∧ t.current = .ok .rsta ∧
      (t.hist, t.port) = cycle s.cfg s.hist v r ∧
      t.raw = v ∧ t.potraw = r ∧ t.pot = r / 8 ∧ t.bnd = bounds r ∧ t.level = cycleLevel s.hist v ∧ t.outpat = t.port ∧
      t.rstl = false ∧ t.stbl = false ∧ t.chsel = false ∧ t.timer = 0 ∧
      t.cfg = s.cfg ∧ t.edge = s.edge + cyclePeriods s.cfg d dp) ∧
    (∀ (k : Nat) (u : State), k < cyclePeriods s.cfg d dp → RunsTo k s u → u.port = s.port)

/-- R142 (the spec's derivation): A RUN FROM RESET. For every build, every listed environment and every number of cycles: after
n cycles from reset the history is H_n and the buses show P_n, and they showed P_m all through cycle m + 1. -/
def Obligations.RunFromResetFollowsCycles : Prop :=
  ∀ (p : Params) (ins : List Input) (e n : Nat) (d : Nat → Nat → Nat) (dp : Nat → Nat) (v : Nat → Vector Nat 7)
    (r : Nat → Nat), p.Valid →
    (∀ m, m < n → CycleAnswers { State.resetFor p with inputs := ins, edge := e } (cycleOffset p d dp m) (d m) (dp m)
      (v m) (r m)) →
    (∃ t, RunsTo (cycleOffset p d dp n) { State.resetFor p with inputs := ins, edge := e } t ∧ t.current = .ok .rsta ∧
      t.hist = runHist v n ∧ t.port = runPorts p v r n) ∧
    (∀ (m k : Nat) (u : State), m < n → k < cyclePeriods p (d m) (dp m) →
      RunsTo (cycleOffset p d dp m + k) { State.resetFor p with inputs := ins, edge := e } u → u.port = runPorts p v r m)

/-- R75, R8 (the spec's decisions D9, D27): the period count of a minimum duration is the least count of at least one period
that lasts it, for every clock; the default parameters are within R8's constraints and are these counts at 1 MHz. -/
def Obligations.PeriodCountsAreLeast : Prop :=
  (∀ us f : Nat, 1 ≤ Params.leastCount us f ∧ Params.LastsAtLeast (Params.leastCount us f) us f ∧
    ∀ n, 1 ≤ n → Params.LastsAtLeast n us f → Params.leastCount us f ≤ n) ∧
  Params.default.Valid ∧ Params.default.nRp = Params.leastCount 10 1000000 ∧
  Params.default.nRs = Params.leastCount 80 1000000 ∧ Params.default.nSt = Params.leastCount 40 1000000

/-! ### The environment's moves -/

/-- R160, the "assumed never" column (the spec's decision D30; it errs toward proving, log entry 16; that a
stale flag counts as completion is the model's choice, log entry 17): the ADC has no such moves. With no conversion in flight and none started in this period, an `ADC_DONE` of 0 is not followed by 1; and while
`ADC_DONE` stays 1 without a start, `ADC_DATA` stays. -/
def Obligations.AdcRaisesDoneOnlyForStartedConversion : Prop :=
  (∀ s t : State, step s = .next t → s.adc.inFlight = false → s.adcStart = false →
    s.input.adcDone = false → t.input.adcDone = false) ∧
  (∀ s t : State, step s = .next t → s.adcStart = false →
    s.input.adcDone = true → t.input.adcDone = true → t.adcData = s.adcData) ∧
  (∀ s : State, s.adc = .idle → s.input.adcDone = false)
end

