-- ==== Sys2Proof/Laws/Decode.lean ====
section
/-! SUPPORT. The two fields of a sequencer word and what decoding reads of them, said once: decoding is a function of PHASE
and BAND, so that no later proof unfolds the word. -/

namespace Sys2Proof

/-- `bits[7:3]` of `PHASE ++ BAND` is PHASE. -/
@[simp] theorem phaseOfWord_append (p : PhaseField) (b : BandField) : phaseOfWord (p ++ b) = p := by
  revert p b; decide +kernel

/-- `bits[2:0]` of `PHASE ++ BAND` is BAND. -/
@[simp] theorem bandOfWord_append (p : PhaseField) (b : BandField) : bandOfWord (p ++ b) = b := by
  revert p b; decide +kernel

/-- A word is its two fields. -/
@[simp] theorem append_fields (w : SeqWord) : phaseOfWord w ++ bandOfWord w = w := by
  revert w; decide +kernel

/-- Decoding the word of two fields. -/
theorem decode_append (p : PhaseField) (b : BandField) : decode (p ++ b) = decodeFields p b := by
  simp [decode]

theorem decodePlain_ok {b : BandField} {i j : Instr} (h : decodePlain b i = .ok j) : b = 0 ∧ j = i := by
  unfold decodePlain at h
  split at h
  · next hb => exact ⟨hb, (Except.ok.inj h).symm⟩
  · cases h

theorem decodeBanded_ok {b : BandField} {f : BandField → Instr} {j : Instr} (h : decodeBanded b f = .ok j) :
    BandField.legal b = true ∧ j = f b := by
  unfold decodeBanded at h
  split at h
  · next hb => exact ⟨hb, (Except.ok.inj h).symm⟩
  · cases h

/-- The fields of a word that decodes are the codes of its micro-operation (R70). -/
theorem fields_of_decodeFields {p : PhaseField} {b : BandField} {i : Instr} (h : decodeFields p b = .ok i) :
    p = phaseCode i ∧ b = bandCode i := by
  unfold decodeFields at h
  split at h
  all_goals first
    | (obtain ⟨hb, rfl⟩ := decodePlain_ok h; exact ⟨BitVec.eq_of_toNat_eq ‹_›, hb⟩)
    | (obtain ⟨-, rfl⟩ := decodeBanded_ok h; exact ⟨BitVec.eq_of_toNat_eq ‹_›, rfl⟩)
    | cases h

end Sys2Proof

namespace Sys2Proof.Machine

/-- The current micro-operation is what PHASE and BAND decode to (R67). -/
theorem State.current_eq (s : State) : s.current = decodeFields s.phase s.band := decode_append _ _

/-- After `SEQ <- (P, b)` the current micro-operation is what the two written fields decode to. -/
theorem State.goto_current (s : State) (i : Instr) : (s.goto i).current = decodeFields (phaseCode i) (bandCode i) :=
  State.current_eq _

/-- PHASE and BAND when `i` is current. -/
theorem State.fields_of_current {s : State} {i : Instr} (h : s.current = .ok i) :
    s.phase = phaseCode i ∧ s.band = bandCode i :=
  fields_of_decodeFields (s.current_eq.symm.trans h)

end Sys2Proof.Machine
end

