-- ==== Sys2Proof/Laws/State.lean ====
section
/-! SUPPORT. What each named update does to each field of State: one lemma per field per update, so that no later proof
unfolds a record update. -/

namespace Sys2Proof.Machine

variable (s : State)

section goto
variable (i : Instr)

@[simp] theorem State.goto_phase : (s.goto i).phase = phaseCode i := rfl
@[simp] theorem State.goto_band : (s.goto i).band = bandCode i := rfl
@[simp] theorem State.goto_timer : (s.goto i).timer = s.timer := rfl
@[simp] theorem State.goto_rstl : (s.goto i).rstl = s.rstl := rfl
@[simp] theorem State.goto_stbl : (s.goto i).stbl = s.stbl := rfl
@[simp] theorem State.goto_chsel : (s.goto i).chsel = s.chsel := rfl
@[simp] theorem State.goto_raw : (s.goto i).raw = s.raw := rfl
@[simp] theorem State.goto_potraw : (s.goto i).potraw = s.potraw := rfl
@[simp] theorem State.goto_pot : (s.goto i).pot = s.pot := rfl
@[simp] theorem State.goto_bnd : (s.goto i).bnd = s.bnd := rfl
@[simp] theorem State.goto_hist : (s.goto i).hist = s.hist := rfl
@[simp] theorem State.goto_level : (s.goto i).level = s.level := rfl
@[simp] theorem State.goto_outpat : (s.goto i).outpat = s.outpat := rfl
@[simp] theorem State.goto_port : (s.goto i).port = s.port := rfl
@[simp] theorem State.goto_cfg : (s.goto i).cfg = s.cfg := rfl
@[simp] theorem State.goto_inputs : (s.goto i).inputs = s.inputs := rfl
@[simp] theorem State.goto_edge : (s.goto i).edge = s.edge := rfl
@[simp] theorem State.goto_adc : (s.goto i).adc = s.adc := rfl
@[simp] theorem State.goto_azSeen : (s.goto i).azSeen = s.azSeen := rfl

end goto

section loadSeq
variable (w : SeqWord)

@[simp] theorem State.loadSeq_phase : (s.loadSeq w).phase = phaseOfWord w := rfl
@[simp] theorem State.loadSeq_band : (s.loadSeq w).band = bandOfWord w := rfl
@[simp] theorem State.loadSeq_timer : (s.loadSeq w).timer = s.timer := rfl
@[simp] theorem State.loadSeq_rstl : (s.loadSeq w).rstl = s.rstl := rfl
@[simp] theorem State.loadSeq_stbl : (s.loadSeq w).stbl = s.stbl := rfl
@[simp] theorem State.loadSeq_chsel : (s.loadSeq w).chsel = s.chsel := rfl
@[simp] theorem State.loadSeq_raw : (s.loadSeq w).raw = s.raw := rfl
@[simp] theorem State.loadSeq_potraw : (s.loadSeq w).potraw = s.potraw := rfl
@[simp] theorem State.loadSeq_pot : (s.loadSeq w).pot = s.pot := rfl
@[simp] theorem State.loadSeq_bnd : (s.loadSeq w).bnd = s.bnd := rfl
@[simp] theorem State.loadSeq_hist : (s.loadSeq w).hist = s.hist := rfl
@[simp] theorem State.loadSeq_level : (s.loadSeq w).level = s.level := rfl
@[simp] theorem State.loadSeq_outpat : (s.loadSeq w).outpat = s.outpat := rfl
@[simp] theorem State.loadSeq_port : (s.loadSeq w).port = s.port := rfl
@[simp] theorem State.loadSeq_cfg : (s.loadSeq w).cfg = s.cfg := rfl
@[simp] theorem State.loadSeq_inputs : (s.loadSeq w).inputs = s.inputs := rfl
@[simp] theorem State.loadSeq_edge : (s.loadSeq w).edge = s.edge := rfl
@[simp] theorem State.loadSeq_adc : (s.loadSeq w).adc = s.adc := rfl
@[simp] theorem State.loadSeq_azSeen : (s.loadSeq w).azSeen = s.azSeen := rfl

end loadSeq

section loadTimer
variable (n : Nat)

@[simp] theorem State.loadTimer_phase : (s.loadTimer n).phase = s.phase := rfl
@[simp] theorem State.loadTimer_band : (s.loadTimer n).band = s.band := rfl
@[simp] theorem State.loadTimer_timer : (s.loadTimer n).timer = n - 1 := rfl
@[simp] theorem State.loadTimer_rstl : (s.loadTimer n).rstl = s.rstl := rfl
@[simp] theorem State.loadTimer_stbl : (s.loadTimer n).stbl = s.stbl := rfl
@[simp] theorem State.loadTimer_chsel : (s.loadTimer n).chsel = s.chsel := rfl
@[simp] theorem State.loadTimer_raw : (s.loadTimer n).raw = s.raw := rfl
@[simp] theorem State.loadTimer_potraw : (s.loadTimer n).potraw = s.potraw := rfl
@[simp] theorem State.loadTimer_pot : (s.loadTimer n).pot = s.pot := rfl
@[simp] theorem State.loadTimer_bnd : (s.loadTimer n).bnd = s.bnd := rfl
@[simp] theorem State.loadTimer_hist : (s.loadTimer n).hist = s.hist := rfl
@[simp] theorem State.loadTimer_level : (s.loadTimer n).level = s.level := rfl
@[simp] theorem State.loadTimer_outpat : (s.loadTimer n).outpat = s.outpat := rfl
@[simp] theorem State.loadTimer_port : (s.loadTimer n).port = s.port := rfl
@[simp] theorem State.loadTimer_cfg : (s.loadTimer n).cfg = s.cfg := rfl
@[simp] theorem State.loadTimer_inputs : (s.loadTimer n).inputs = s.inputs := rfl
@[simp] theorem State.loadTimer_edge : (s.loadTimer n).edge = s.edge := rfl
@[simp] theorem State.loadTimer_adc : (s.loadTimer n).adc = s.adc := rfl
@[simp] theorem State.loadTimer_azSeen : (s.loadTimer n).azSeen = s.azSeen := rfl

end loadTimer

section countDown

@[simp] theorem State.countDown_phase : s.countDown.phase = s.phase := rfl
@[simp] theorem State.countDown_band : s.countDown.band = s.band := rfl
@[simp] theorem State.countDown_timer : s.countDown.timer = s.timer - 1 := rfl
@[simp] theorem State.countDown_rstl : s.countDown.rstl = s.rstl := rfl
@[simp] theorem State.countDown_stbl : s.countDown.stbl = s.stbl := rfl
@[simp] theorem State.countDown_chsel : s.countDown.chsel = s.chsel := rfl
@[simp] theorem State.countDown_raw : s.countDown.raw = s.raw := rfl
@[simp] theorem State.countDown_potraw : s.countDown.potraw = s.potraw := rfl
@[simp] theorem State.countDown_pot : s.countDown.pot = s.pot := rfl
@[simp] theorem State.countDown_bnd : s.countDown.bnd = s.bnd := rfl
@[simp] theorem State.countDown_hist : s.countDown.hist = s.hist := rfl
@[simp] theorem State.countDown_level : s.countDown.level = s.level := rfl
@[simp] theorem State.countDown_outpat : s.countDown.outpat = s.outpat := rfl
@[simp] theorem State.countDown_port : s.countDown.port = s.port := rfl
@[simp] theorem State.countDown_cfg : s.countDown.cfg = s.cfg := rfl
@[simp] theorem State.countDown_inputs : s.countDown.inputs = s.inputs := rfl
@[simp] theorem State.countDown_edge : s.countDown.edge = s.edge := rfl
@[simp] theorem State.countDown_adc : s.countDown.adc = s.adc := rfl
@[simp] theorem State.countDown_azSeen : s.countDown.azSeen = s.azSeen := rfl

end countDown

section setRstl
variable (v : Bool)

@[simp] theorem State.setRstl_phase : (s.setRstl v).phase = s.phase := rfl
@[simp] theorem State.setRstl_band : (s.setRstl v).band = s.band := rfl
@[simp] theorem State.setRstl_timer : (s.setRstl v).timer = s.timer := rfl
@[simp] theorem State.setRstl_rstl : (s.setRstl v).rstl = v := rfl
@[simp] theorem State.setRstl_stbl : (s.setRstl v).stbl = s.stbl := rfl
@[simp] theorem State.setRstl_chsel : (s.setRstl v).chsel = s.chsel := rfl
@[simp] theorem State.setRstl_raw : (s.setRstl v).raw = s.raw := rfl
@[simp] theorem State.setRstl_potraw : (s.setRstl v).potraw = s.potraw := rfl
@[simp] theorem State.setRstl_pot : (s.setRstl v).pot = s.pot := rfl
@[simp] theorem State.setRstl_bnd : (s.setRstl v).bnd = s.bnd := rfl
@[simp] theorem State.setRstl_hist : (s.setRstl v).hist = s.hist := rfl
@[simp] theorem State.setRstl_level : (s.setRstl v).level = s.level := rfl
@[simp] theorem State.setRstl_outpat : (s.setRstl v).outpat = s.outpat := rfl
@[simp] theorem State.setRstl_port : (s.setRstl v).port = s.port := rfl
@[simp] theorem State.setRstl_cfg : (s.setRstl v).cfg = s.cfg := rfl
@[simp] theorem State.setRstl_inputs : (s.setRstl v).inputs = s.inputs := rfl
@[simp] theorem State.setRstl_edge : (s.setRstl v).edge = s.edge := rfl
@[simp] theorem State.setRstl_adc : (s.setRstl v).adc = s.adc := rfl
@[simp] theorem State.setRstl_azSeen : (s.setRstl v).azSeen = s.azSeen := rfl

end setRstl

section setStbl
variable (v : Bool)

@[simp] theorem State.setStbl_phase : (s.setStbl v).phase = s.phase := rfl
@[simp] theorem State.setStbl_band : (s.setStbl v).band = s.band := rfl
@[simp] theorem State.setStbl_timer : (s.setStbl v).timer = s.timer := rfl
@[simp] theorem State.setStbl_rstl : (s.setStbl v).rstl = s.rstl := rfl
@[simp] theorem State.setStbl_stbl : (s.setStbl v).stbl = v := rfl
@[simp] theorem State.setStbl_chsel : (s.setStbl v).chsel = s.chsel := rfl
@[simp] theorem State.setStbl_raw : (s.setStbl v).raw = s.raw := rfl
@[simp] theorem State.setStbl_potraw : (s.setStbl v).potraw = s.potraw := rfl
@[simp] theorem State.setStbl_pot : (s.setStbl v).pot = s.pot := rfl
@[simp] theorem State.setStbl_bnd : (s.setStbl v).bnd = s.bnd := rfl
@[simp] theorem State.setStbl_hist : (s.setStbl v).hist = s.hist := rfl
@[simp] theorem State.setStbl_level : (s.setStbl v).level = s.level := rfl
@[simp] theorem State.setStbl_outpat : (s.setStbl v).outpat = s.outpat := rfl
@[simp] theorem State.setStbl_port : (s.setStbl v).port = s.port := rfl
@[simp] theorem State.setStbl_cfg : (s.setStbl v).cfg = s.cfg := rfl
@[simp] theorem State.setStbl_inputs : (s.setStbl v).inputs = s.inputs := rfl
@[simp] theorem State.setStbl_edge : (s.setStbl v).edge = s.edge := rfl
@[simp] theorem State.setStbl_adc : (s.setStbl v).adc = s.adc := rfl
@[simp] theorem State.setStbl_azSeen : (s.setStbl v).azSeen = s.azSeen := rfl

end setStbl

section setChsel
variable (v : Bool)

@[simp] theorem State.setChsel_phase : (s.setChsel v).phase = s.phase := rfl
@[simp] theorem State.setChsel_band : (s.setChsel v).band = s.band := rfl
@[simp] theorem State.setChsel_timer : (s.setChsel v).timer = s.timer := rfl
@[simp] theorem State.setChsel_rstl : (s.setChsel v).rstl = s.rstl := rfl
@[simp] theorem State.setChsel_stbl : (s.setChsel v).stbl = s.stbl := rfl
@[simp] theorem State.setChsel_chsel : (s.setChsel v).chsel = v := rfl
@[simp] theorem State.setChsel_raw : (s.setChsel v).raw = s.raw := rfl
@[simp] theorem State.setChsel_potraw : (s.setChsel v).potraw = s.potraw := rfl
@[simp] theorem State.setChsel_pot : (s.setChsel v).pot = s.pot := rfl
@[simp] theorem State.setChsel_bnd : (s.setChsel v).bnd = s.bnd := rfl
@[simp] theorem State.setChsel_hist : (s.setChsel v).hist = s.hist := rfl
@[simp] theorem State.setChsel_level : (s.setChsel v).level = s.level := rfl
@[simp] theorem State.setChsel_outpat : (s.setChsel v).outpat = s.outpat := rfl
@[simp] theorem State.setChsel_port : (s.setChsel v).port = s.port := rfl
@[simp] theorem State.setChsel_cfg : (s.setChsel v).cfg = s.cfg := rfl
@[simp] theorem State.setChsel_inputs : (s.setChsel v).inputs = s.inputs := rfl
@[simp] theorem State.setChsel_edge : (s.setChsel v).edge = s.edge := rfl
@[simp] theorem State.setChsel_adc : (s.setChsel v).adc = s.adc := rfl
@[simp] theorem State.setChsel_azSeen : (s.setChsel v).azSeen = s.azSeen := rfl

end setChsel

section setRaw
variable (b : Band) (v : Nat)

@[simp] theorem State.setRaw_phase : (s.setRaw b v).phase = s.phase := rfl
@[simp] theorem State.setRaw_band : (s.setRaw b v).band = s.band := rfl
@[simp] theorem State.setRaw_timer : (s.setRaw b v).timer = s.timer := rfl
@[simp] theorem State.setRaw_rstl : (s.setRaw b v).rstl = s.rstl := rfl
@[simp] theorem State.setRaw_stbl : (s.setRaw b v).stbl = s.stbl := rfl
@[simp] theorem State.setRaw_chsel : (s.setRaw b v).chsel = s.chsel := rfl
@[simp] theorem State.setRaw_raw : (s.setRaw b v).raw = s.raw.set b v := rfl
@[simp] theorem State.setRaw_potraw : (s.setRaw b v).potraw = s.potraw := rfl
@[simp] theorem State.setRaw_pot : (s.setRaw b v).pot = s.pot := rfl
@[simp] theorem State.setRaw_bnd : (s.setRaw b v).bnd = s.bnd := rfl
@[simp] theorem State.setRaw_hist : (s.setRaw b v).hist = s.hist := rfl
@[simp] theorem State.setRaw_level : (s.setRaw b v).level = s.level := rfl
@[simp] theorem State.setRaw_outpat : (s.setRaw b v).outpat = s.outpat := rfl
@[simp] theorem State.setRaw_port : (s.setRaw b v).port = s.port := rfl
@[simp] theorem State.setRaw_cfg : (s.setRaw b v).cfg = s.cfg := rfl
@[simp] theorem State.setRaw_inputs : (s.setRaw b v).inputs = s.inputs := rfl
@[simp] theorem State.setRaw_edge : (s.setRaw b v).edge = s.edge := rfl
@[simp] theorem State.setRaw_adc : (s.setRaw b v).adc = s.adc := rfl
@[simp] theorem State.setRaw_azSeen : (s.setRaw b v).azSeen = s.azSeen := rfl

end setRaw

section setPotraw
variable (v : Nat)

@[simp] theorem State.setPotraw_phase : (s.setPotraw v).phase = s.phase := rfl
@[simp] theorem State.setPotraw_band : (s.setPotraw v).band = s.band := rfl
@[simp] theorem State.setPotraw_timer : (s.setPotraw v).timer = s.timer := rfl
@[simp] theorem State.setPotraw_rstl : (s.setPotraw v).rstl = s.rstl := rfl
@[simp] theorem State.setPotraw_stbl : (s.setPotraw v).stbl = s.stbl := rfl
@[simp] theorem State.setPotraw_chsel : (s.setPotraw v).chsel = s.chsel := rfl
@[simp] theorem State.setPotraw_raw : (s.setPotraw v).raw = s.raw := rfl
@[simp] theorem State.setPotraw_potraw : (s.setPotraw v).potraw = v := rfl
@[simp] theorem State.setPotraw_pot : (s.setPotraw v).pot = s.pot := rfl
@[simp] theorem State.setPotraw_bnd : (s.setPotraw v).bnd = s.bnd := rfl
@[simp] theorem State.setPotraw_hist : (s.setPotraw v).hist = s.hist := rfl
@[simp] theorem State.setPotraw_level : (s.setPotraw v).level = s.level := rfl
@[simp] theorem State.setPotraw_outpat : (s.setPotraw v).outpat = s.outpat := rfl
@[simp] theorem State.setPotraw_port : (s.setPotraw v).port = s.port := rfl
@[simp] theorem State.setPotraw_cfg : (s.setPotraw v).cfg = s.cfg := rfl
@[simp] theorem State.setPotraw_inputs : (s.setPotraw v).inputs = s.inputs := rfl
@[simp] theorem State.setPotraw_edge : (s.setPotraw v).edge = s.edge := rfl
@[simp] theorem State.setPotraw_adc : (s.setPotraw v).adc = s.adc := rfl
@[simp] theorem State.setPotraw_azSeen : (s.setPotraw v).azSeen = s.azSeen := rfl

end setPotraw

section setPotBnd
variable (p : Nat) (x : Vector Nat 5)

@[simp] theorem State.setPotBnd_phase : (s.setPotBnd p x).phase = s.phase := rfl
@[simp] theorem State.setPotBnd_band : (s.setPotBnd p x).band = s.band := rfl
@[simp] theorem State.setPotBnd_timer : (s.setPotBnd p x).timer = s.timer := rfl
@[simp] theorem State.setPotBnd_rstl : (s.setPotBnd p x).rstl = s.rstl := rfl
@[simp] theorem State.setPotBnd_stbl : (s.setPotBnd p x).stbl = s.stbl := rfl
@[simp] theorem State.setPotBnd_chsel : (s.setPotBnd p x).chsel = s.chsel := rfl
@[simp] theorem State.setPotBnd_raw : (s.setPotBnd p x).raw = s.raw := rfl
@[simp] theorem State.setPotBnd_potraw : (s.setPotBnd p x).potraw = s.potraw := rfl
@[simp] theorem State.setPotBnd_pot : (s.setPotBnd p x).pot = p := rfl
@[simp] theorem State.setPotBnd_bnd : (s.setPotBnd p x).bnd = x := rfl
@[simp] theorem State.setPotBnd_hist : (s.setPotBnd p x).hist = s.hist := rfl
@[simp] theorem State.setPotBnd_level : (s.setPotBnd p x).level = s.level := rfl
@[simp] theorem State.setPotBnd_outpat : (s.setPotBnd p x).outpat = s.outpat := rfl
@[simp] theorem State.setPotBnd_port : (s.setPotBnd p x).port = s.port := rfl
@[simp] theorem State.setPotBnd_cfg : (s.setPotBnd p x).cfg = s.cfg := rfl
@[simp] theorem State.setPotBnd_inputs : (s.setPotBnd p x).inputs = s.inputs := rfl
@[simp] theorem State.setPotBnd_edge : (s.setPotBnd p x).edge = s.edge := rfl
@[simp] theorem State.setPotBnd_adc : (s.setPotBnd p x).adc = s.adc := rfl
@[simp] theorem State.setPotBnd_azSeen : (s.setPotBnd p x).azSeen = s.azSeen := rfl

end setPotBnd

section setHistLevel
variable (b : Band) (h : Hist) (l : Nat)

@[simp] theorem State.setHistLevel_phase : (s.setHistLevel b h l).phase = s.phase := rfl
@[simp] theorem State.setHistLevel_band : (s.setHistLevel b h l).band = s.band := rfl
@[simp] theorem State.setHistLevel_timer : (s.setHistLevel b h l).timer = s.timer := rfl
@[simp] theorem State.setHistLevel_rstl : (s.setHistLevel b h l).rstl = s.rstl := rfl
@[simp] theorem State.setHistLevel_stbl : (s.setHistLevel b h l).stbl = s.stbl := rfl
@[simp] theorem State.setHistLevel_chsel : (s.setHistLevel b h l).chsel = s.chsel := rfl
@[simp] theorem State.setHistLevel_raw : (s.setHistLevel b h l).raw = s.raw := rfl
@[simp] theorem State.setHistLevel_potraw : (s.setHistLevel b h l).potraw = s.potraw := rfl
@[simp] theorem State.setHistLevel_pot : (s.setHistLevel b h l).pot = s.pot := rfl
@[simp] theorem State.setHistLevel_bnd : (s.setHistLevel b h l).bnd = s.bnd := rfl
@[simp] theorem State.setHistLevel_hist : (s.setHistLevel b h l).hist = s.hist.set b h := rfl
@[simp] theorem State.setHistLevel_level : (s.setHistLevel b h l).level = s.level.set b l := rfl
@[simp] theorem State.setHistLevel_outpat : (s.setHistLevel b h l).outpat = s.outpat := rfl
@[simp] theorem State.setHistLevel_port : (s.setHistLevel b h l).port = s.port := rfl
@[simp] theorem State.setHistLevel_cfg : (s.setHistLevel b h l).cfg = s.cfg := rfl
@[simp] theorem State.setHistLevel_inputs : (s.setHistLevel b h l).inputs = s.inputs := rfl
@[simp] theorem State.setHistLevel_edge : (s.setHistLevel b h l).edge = s.edge := rfl
@[simp] theorem State.setHistLevel_adc : (s.setHistLevel b h l).adc = s.adc := rfl
@[simp] theorem State.setHistLevel_azSeen : (s.setHistLevel b h l).azSeen = s.azSeen := rfl

end setHistLevel

section setOutpat
variable (b : Band) (v : Nat)

@[simp] theorem State.setOutpat_phase : (s.setOutpat b v).phase = s.phase := rfl
@[simp] theorem State.setOutpat_band : (s.setOutpat b v).band = s.band := rfl
@[simp] theorem State.setOutpat_timer : (s.setOutpat b v).timer = s.timer := rfl
@[simp] theorem State.setOutpat_rstl : (s.setOutpat b v).rstl = s.rstl := rfl
@[simp] theorem State.setOutpat_stbl : (s.setOutpat b v).stbl = s.stbl := rfl
@[simp] theorem State.setOutpat_chsel : (s.setOutpat b v).chsel = s.chsel := rfl
@[simp] theorem State.setOutpat_raw : (s.setOutpat b v).raw = s.raw := rfl
@[simp] theorem State.setOutpat_potraw : (s.setOutpat b v).potraw = s.potraw := rfl
@[simp] theorem State.setOutpat_pot : (s.setOutpat b v).pot = s.pot := rfl
@[simp] theorem State.setOutpat_bnd : (s.setOutpat b v).bnd = s.bnd := rfl
@[simp] theorem State.setOutpat_hist : (s.setOutpat b v).hist = s.hist := rfl
@[simp] theorem State.setOutpat_level : (s.setOutpat b v).level = s.level := rfl
@[simp] theorem State.setOutpat_outpat : (s.setOutpat b v).outpat = s.outpat.set b v := rfl
@[simp] theorem State.setOutpat_port : (s.setOutpat b v).port = s.port := rfl
@[simp] theorem State.setOutpat_cfg : (s.setOutpat b v).cfg = s.cfg := rfl
@[simp] theorem State.setOutpat_inputs : (s.setOutpat b v).inputs = s.inputs := rfl
@[simp] theorem State.setOutpat_edge : (s.setOutpat b v).edge = s.edge := rfl
@[simp] theorem State.setOutpat_adc : (s.setOutpat b v).adc = s.adc := rfl
@[simp] theorem State.setOutpat_azSeen : (s.setOutpat b v).azSeen = s.azSeen := rfl

end setOutpat

section setPorts
variable (v : Vector Nat 7)

@[simp] theorem State.setPorts_phase : (s.setPorts v).phase = s.phase := rfl
@[simp] theorem State.setPorts_band : (s.setPorts v).band = s.band := rfl
@[simp] theorem State.setPorts_timer : (s.setPorts v).timer = s.timer := rfl
@[simp] theorem State.setPorts_rstl : (s.setPorts v).rstl = s.rstl := rfl
@[simp] theorem State.setPorts_stbl : (s.setPorts v).stbl = s.stbl := rfl
@[simp] theorem State.setPorts_chsel : (s.setPorts v).chsel = s.chsel := rfl
@[simp] theorem State.setPorts_raw : (s.setPorts v).raw = s.raw := rfl
@[simp] theorem State.setPorts_potraw : (s.setPorts v).potraw = s.potraw := rfl
@[simp] theorem State.setPorts_pot : (s.setPorts v).pot = s.pot := rfl
@[simp] theorem State.setPorts_bnd : (s.setPorts v).bnd = s.bnd := rfl
@[simp] theorem State.setPorts_hist : (s.setPorts v).hist = s.hist := rfl
@[simp] theorem State.setPorts_level : (s.setPorts v).level = s.level := rfl
@[simp] theorem State.setPorts_outpat : (s.setPorts v).outpat = s.outpat := rfl
@[simp] theorem State.setPorts_port : (s.setPorts v).port = v := rfl
@[simp] theorem State.setPorts_cfg : (s.setPorts v).cfg = s.cfg := rfl
@[simp] theorem State.setPorts_inputs : (s.setPorts v).inputs = s.inputs := rfl
@[simp] theorem State.setPorts_edge : (s.setPorts v).edge = s.edge := rfl
@[simp] theorem State.setPorts_adc : (s.setPorts v).adc = s.adc := rfl
@[simp] theorem State.setPorts_azSeen : (s.setPorts v).azSeen = s.azSeen := rfl

end setPorts

section closePeriod
variable (t : State)

@[simp] theorem State.closePeriod_phase : (s.closePeriod t).phase = t.phase := rfl
@[simp] theorem State.closePeriod_band : (s.closePeriod t).band = t.band := rfl
@[simp] theorem State.closePeriod_timer : (s.closePeriod t).timer = t.timer := rfl
@[simp] theorem State.closePeriod_rstl : (s.closePeriod t).rstl = t.rstl := rfl
@[simp] theorem State.closePeriod_stbl : (s.closePeriod t).stbl = t.stbl := rfl
@[simp] theorem State.closePeriod_chsel : (s.closePeriod t).chsel = t.chsel := rfl
@[simp] theorem State.closePeriod_raw : (s.closePeriod t).raw = t.raw := rfl
@[simp] theorem State.closePeriod_potraw : (s.closePeriod t).potraw = t.potraw := rfl
@[simp] theorem State.closePeriod_pot : (s.closePeriod t).pot = t.pot := rfl
@[simp] theorem State.closePeriod_bnd : (s.closePeriod t).bnd = t.bnd := rfl
@[simp] theorem State.closePeriod_hist : (s.closePeriod t).hist = t.hist := rfl
@[simp] theorem State.closePeriod_level : (s.closePeriod t).level = t.level := rfl
@[simp] theorem State.closePeriod_outpat : (s.closePeriod t).outpat = t.outpat := rfl
@[simp] theorem State.closePeriod_port : (s.closePeriod t).port = t.port := rfl
@[simp] theorem State.closePeriod_cfg : (s.closePeriod t).cfg = t.cfg := rfl
@[simp] theorem State.closePeriod_inputs : (s.closePeriod t).inputs = s.inputs.tail := rfl
@[simp] theorem State.closePeriod_edge : (s.closePeriod t).edge = s.edge + 1 := rfl
@[simp] theorem State.closePeriod_adc : (s.closePeriod t).adc = s.adc.edge s.adcStart s.adcCh s.input.adcDone s.adcData := rfl
@[simp] theorem State.closePeriod_azSeen : (s.closePeriod t).azSeen = azEdge s t := rfl

end closePeriod

section powerOnReset

@[simp] theorem State.powerOnReset_phase : s.powerOnReset.phase = 0 := rfl
@[simp] theorem State.powerOnReset_band : s.powerOnReset.band = 0 := rfl
@[simp] theorem State.powerOnReset_timer : s.powerOnReset.timer = 0 := rfl
@[simp] theorem State.powerOnReset_rstl : s.powerOnReset.rstl = false := rfl
@[simp] theorem State.powerOnReset_stbl : s.powerOnReset.stbl = false := rfl
@[simp] theorem State.powerOnReset_chsel : s.powerOnReset.chsel = false := rfl
@[simp] theorem State.powerOnReset_raw : s.powerOnReset.raw = Vector.replicate 7 0 := rfl
@[simp] theorem State.powerOnReset_potraw : s.powerOnReset.potraw = 0 := rfl
@[simp] theorem State.powerOnReset_pot : s.powerOnReset.pot = 0 := rfl
@[simp] theorem State.powerOnReset_bnd : s.powerOnReset.bnd = Vector.replicate 5 0 := rfl
@[simp] theorem State.powerOnReset_hist : s.powerOnReset.hist = Vector.replicate 7 ⟨0, 0, 0, 0⟩ := rfl
@[simp] theorem State.powerOnReset_level : s.powerOnReset.level = Vector.replicate 7 0 := rfl
@[simp] theorem State.powerOnReset_outpat : s.powerOnReset.outpat = Vector.replicate 7 0 := rfl
@[simp] theorem State.powerOnReset_port : s.powerOnReset.port = Vector.replicate 7 0 := rfl
@[simp] theorem State.powerOnReset_cfg : s.powerOnReset.cfg = s.cfg := rfl
@[simp] theorem State.powerOnReset_inputs : s.powerOnReset.inputs = s.inputs := rfl
@[simp] theorem State.powerOnReset_edge : s.powerOnReset.edge = s.edge := rfl
@[simp] theorem State.powerOnReset_adc : s.powerOnReset.adc = s.adc := rfl
@[simp] theorem State.powerOnReset_azSeen : s.powerOnReset.azSeen = s.azSeen := rfl

end powerOnReset

end Sys2Proof.Machine
end

