-- ==== Sys2Proof/Laws/Ops.lean ====
section
/-! SUPPORT. One lemma per shared operation that says what it can do; later proofs cite these. -/

namespace Sys2Proof.Machine

/-! ### Band operands -/

@[simp] theorem bandIndex_bandBits (c : Band) : bandIndex (bandBits c) = some c := by
  revert c; decide

@[simp] theorem bandBits_toNat (c : Band) : (bandBits c).toNat = c.val := by
  revert c; decide

@[simp] theorem withBand_bandBits (c : Band) (k : Band → Host.Outcome State Fault Refusal) :
    withBand (bandBits c) k = k c := by
  simp [withBand]

/-- Every legal BAND field is the field of a band index. -/
theorem bandField_cases (b : BandField) : (∃ c : Band, b = bandBits c) ∨ b = 7 := by
  revert b; decide

theorem withBand_seven (k : Band → Host.Outcome State Fault Refusal) : withBand 7 k = .refused .illegalBand := rfl

/-- A banded meaning that answers a next state had a legal operand. -/
theorem withBand_next {b : BandField} {k : Band → Host.Outcome State Fault Refusal} {t : State}
    (h : withBand b k = .next t) : ∃ c : Band, b = bandBits c ∧ k c = .next t := by
  obtain ⟨c, rfl⟩ | rfl := bandField_cases b
  · exact ⟨c, rfl, by simpa using h⟩
  · cases h

theorem nextBand_lt {c : Band} (h : c.val < 6) (f : BandField → Instr) (i : Instr) :
    nextBand c f i = f (BitVec.ofNat 3 (c.val + 1)) := if_pos h

theorem nextBand_six {c : Band} (h : c.val = 6) (f : BandField → Instr) (i : Instr) : nextBand c f i = i :=
  if_neg (by omega)

/-! ### Waits -/

/-- One period of a wait does one of two things (R87). -/
theorem State.wait_cases (s : State) (i : Instr) :
    (s.timer = 0 ∧ s.wait i = s.goto i) ∨ (s.timer ≠ 0 ∧ s.wait i = s.countDown) := by
  by_cases h : s.timer = 0 <;> simp [State.wait, State.timerZero, h]

theorem State.wait_zero {s : State} (i : Instr) (h : s.timer = 0) : s.wait i = s.goto i := by
  simp [State.wait, State.timerZero, h]

theorem State.wait_pos {s : State} (i : Instr) (h : s.timer ≠ 0) : s.wait i = s.countDown := by
  simp [State.wait, State.timerZero, h]

/-! ### The edge and the inputs -/

/-- After an edge the inputs known for the coming edges are the old ones less the first. -/
@[simp] theorem State.closePeriod_inputAt (s t : State) (k : Nat) :
    (s.closePeriod t).inputAt k = s.inputAt (k + 1) := by
  simp [State.inputAt, Nat.add_assoc, Nat.add_comm 1 k]

/-- The current micro-operation is a function of PHASE and BAND alone (R27). -/
theorem State.current_congr {s t : State} (hp : t.phase = s.phase) (hb : t.band = s.band) : t.current = s.current := by
  simp only [State.current, State.seq, hp, hb]

@[simp] theorem State.countDown_current (s : State) : s.countDown.current = s.current := State.current_congr rfl rfl

/-- The inputs of an edge are a function of the listed inputs and the edge number alone. -/
theorem State.inputAt_congr {s t : State} (hi : t.inputs = s.inputs) (he : t.edge = s.edge) (k : Nat) :
    t.inputAt k = s.inputAt k := by
  simp only [State.inputAt, hi, he]

/-- R160's bounds on the ADC's ports leave `POR` alone. -/
@[simp] theorem Adc.restrict_por (a : Adc) (i : Input) : (a.restrict i).por = i.por := rfl

theorem State.input_por (s : State) : s.input.por = (s.inputAt 0).por := rfl

/-- While a conversion is in flight the ADC's ports read whatever the environment chooses. -/
theorem Adc.restrict_of_inFlight {a : Adc} (h : a.inFlight = true) (i : Input) : a.restrict i = i := by
  cases a <;> first | rfl | cases h

theorem State.input_of_inFlight {s : State} (h : s.adc.inFlight = true) : s.input = s.inputAt 0 :=
  Adc.restrict_of_inFlight h _

theorem State.adcData_of_inFlight {s : State} (h : s.adc.inFlight = true) : s.adcData = s.adcDataAt 0 := by
  rw [State.adcData, State.input_of_inFlight h]; rfl

/-- A flag the environment does not raise reads 0. -/
theorem State.input_not_done {s : State} (h : (s.inputAt 0).adcDone = false) : s.input.adcDone = false := by
  rw [State.input, Adc.restrict, h]; cases s.adc <;> rfl

/-- The flag reads 1 only for a conversion in flight or one still shown complete (R160). -/
theorem Adc.started_of_doneReads {a : Adc} {r : Bool} (h : a.doneReads r = true) :
    a.inFlight = true ∨ ∃ c v, a = .done c v := by
  cases a with
  | idle => cases h
  | spent c => cases h
  | started c => exact .inl rfl
  | busy c => exact .inl rfl
  | done c v => exact .inr ⟨c, v, rfl⟩

/-- Without a start, a conversion in flight is in flight until the flag reads 1, and none comes to be in flight. -/
theorem Adc.edge_inFlight (a : Adc) (ch done : Bool) (v : Nat) :
    (a.edge false ch done v).inFlight = (a.inFlight && !done) := by
  cases a <;> cases done <;> rfl

@[simp] theorem State.closePeriod_current (s t : State) : (s.closePeriod t).current = t.current :=
  State.current_congr rfl rfl

theorem State.adcData_lt (s : State) : s.adcData < 2 ^ s.cfg.sampleW := Nat.mod_lt _ (Nat.two_pow_pos _)

theorem closeOutcome_next {s t : State} {o : Host.Outcome State Fault Refusal} (h : closeOutcome s o = .next t) :
    ∃ u, o = .next u ∧ t = s.closePeriod u := by
  cases o with
  | next u => exact ⟨u, rfl, by simpa [closeOutcome] using h.symm⟩
  | fault f => exact nomatch f
  | refused r => simp [closeOutcome] at h

/-! ### Arithmetic of the filter, the scaler and the mapper -/

theorem Hist.avg_eq (h : Hist) : h.avg = (h.h0 + h.h1 + h.h2 + h.h3) / 4 := by
  simp [Hist.avg, Hist.sum, Nat.shiftRight_eq_div_pow]

theorem scalePot_eq (r : Nat) : scalePot r = r / 8 := by
  simp [scalePot, Nat.shiftRight_eq_div_pow]

@[simp] theorem boundaries_get (p : Nat) (i : Fin 5) : (boundaries p)[i] = 110 + 10 * i.val + p := by
  simp [boundaries]; omega

/-- The bucket as a sum of comparisons (R121). -/
theorem bucket_eq (level floor : Nat) (bnd : Vector Nat 5) :
    bucket level floor bnd =
      (if level > floor then 1 else 0) + (if level > bnd[0] then 1 else 0) + (if level > bnd[1] then 1 else 0) +
      (if level > bnd[2] then 1 else 0) + (if level > bnd[3] then 1 else 0) + (if level > bnd[4] then 1 else 0) := by
  simp [bucket, bucketOf, comparators, Bool.toNat, Bool.cond_decide]

theorem bucket_le_six (level floor : Nat) (bnd : Vector Nat 5) : bucket level floor bnd ≤ 6 := by
  have hb (b : Bool) : b.toNat ≤ 1 := Bool.toNat_le b
  unfold bucket bucketOf
  have h0 := hb (comparators level floor bnd)[0]
  have h1 := hb (comparators level floor bnd)[1]
  have h2 := hb (comparators level floor bnd)[2]
  have h3 := hb (comparators level floor bnd)[3]
  have h4 := hb (comparators level floor bnd)[4]
  have h5 := hb (comparators level floor bnd)[5]
  omega

@[simp] theorem patA_zero : patA 0 = 0 := rfl

@[simp] theorem patB_zero (a : Nat) : patB a 0 = 0 := by simp [patB]

theorem patB_eq (a k : Nat) : patB a k = (2 ^ k - 1) * 2 ^ (a + 1 - k) := Nat.shiftLeft_eq _ _

end Sys2Proof.Machine
end

