-- ==== Sys2Proof/Laws/Exec.lean ====
section
/-! SUPPORT. One equation per banded micro-operation, for a legal band operand, in the words of the shared operations; the
unbanded meanings are equations already. Later proofs rewrite with these and with Laws/State. -/

namespace Sys2Proof.Machine

variable (c : Band) (s : State)

@[simp] theorem exec_stba : exec (.stba (bandBits c)) s =
    .next (((s.setStbl true).loadTimer s.cfg.nSt).goto (.wsa (bandBits c))) := withBand_bandBits c _

@[simp] theorem exec_wsa : exec (.wsa (bandBits c)) s = .next (s.wait (.conv (bandBits c))) := withBand_bandBits c _

@[simp] theorem exec_conv : exec (.conv (bandBits c)) s = .next (s.goto (.samp (bandBits c))) := withBand_bandBits c _

theorem exec_samp : exec (.samp (bandBits c)) s =
    .next (if s.adcDone then (s.setRaw c s.adcData).goto (.stbd (bandBits c)) else s) := withBand_bandBits c _

@[simp] theorem exec_stbd : exec (.stbd (bandBits c)) s =
    .next (((s.setStbl false).loadTimer s.cfg.nSt).goto (.wsd (bandBits c))) := withBand_bandBits c _

@[simp] theorem exec_wsd : exec (.wsd (bandBits c)) s = .next (s.wait (nextBand c .stba .selp)) := withBand_bandBits c _

@[simp] theorem exec_push : exec (.push (bandBits c)) s =
    .next ((s.setHistLevel c (s.hist[c].push s.raw[c]) (s.hist[c].push s.raw[c]).avg).goto (.map (bandBits c))) :=
  withBand_bandBits c _

@[simp] theorem exec_map : exec (.map (bandBits c)) s =
    .next ((s.setOutpat c (mapLevel s.cfg s.level[c] s.bnd s.cfg.bandCfg[c])).goto (nextBand c .push .rend)) :=
  withBand_bandBits c _

variable {c s}

theorem exec_samp_done (h : s.input.adcDone = true) :
    exec (.samp (bandBits c)) s = .next ((s.setRaw c s.adcData).goto (.stbd (bandBits c))) := by
  rw [exec_samp, State.adcDone, if_pos h]

theorem exec_samp_wait (h : s.input.adcDone = false) : exec (.samp (bandBits c)) s = .next s := by
  rw [exec_samp, State.adcDone, if_neg (by simp [h])]

theorem exec_sampp_done (h : s.input.adcDone = true) :
    exec .sampp s = .next ((s.setPotraw s.adcData).goto .selb) := by
  simp [exec, execSampp, State.adcDone, h]

theorem exec_sampp_wait (h : s.input.adcDone = false) : exec .sampp s = .next s := by
  simp [exec, execSampp, State.adcDone, h]

variable (s)

/-- Everything a micro-operation can do to the state, with operands as band indices and the data-dependent transitions of R28
taken apart: `Effect s i j u` says that `i` turns `s` into `u` and that `j` is the micro-operation `u` then has, if `i` was
current in `s`. -/
inductive Effect : Instr → Instr → State → Prop where
  | rsta : Effect .rsta .wrp (((s.setRstl true).loadTimer s.cfg.nRp).goto .wrp)
  | wrpStay (h : s.timer ≠ 0) : Effect .wrp .wrp s.countDown
  | wrpLeave (h : s.timer = 0) : Effect .wrp .rstd (s.goto .rstd)
  | rstd : Effect .rstd .wrs (((s.setRstl false).loadTimer s.cfg.nRs).goto .wrs)
  | wrsStay (h : s.timer ≠ 0) : Effect .wrs .wrs s.countDown
  | wrsLeave (h : s.timer = 0) : Effect .wrs (.stba (bandBits 0)) (s.goto (.stba (bandBits 0)))
  | stba (c : Band) : Effect (.stba (bandBits c)) (.wsa (bandBits c))
      (((s.setStbl true).loadTimer s.cfg.nSt).goto (.wsa (bandBits c)))
  | wsaStay (c : Band) (h : s.timer ≠ 0) : Effect (.wsa (bandBits c)) (.wsa (bandBits c)) s.countDown
  | wsaLeave (c : Band) (h : s.timer = 0) :
      Effect (.wsa (bandBits c)) (.conv (bandBits c)) (s.goto (.conv (bandBits c)))
  | conv (c : Band) : Effect (.conv (bandBits c)) (.samp (bandBits c)) (s.goto (.samp (bandBits c)))
  | sampStay (c : Band) (h : s.input.adcDone = false) : Effect (.samp (bandBits c)) (.samp (bandBits c)) s
  | sampLeave (c : Band) (h : s.input.adcDone = true) :
      Effect (.samp (bandBits c)) (.stbd (bandBits c)) ((s.setRaw c s.adcData).goto (.stbd (bandBits c)))
  | stbd (c : Band) : Effect (.stbd (bandBits c)) (.wsd (bandBits c))
      (((s.setStbl false).loadTimer s.cfg.nSt).goto (.wsd (bandBits c)))
  | wsdStay (c : Band) (h : s.timer ≠ 0) : Effect (.wsd (bandBits c)) (.wsd (bandBits c)) s.countDown
  | wsdNext (c : Band) (h : s.timer = 0) (hc : c.val + 1 < 7) :
      Effect (.wsd (bandBits c)) (.stba (bandBits ⟨c.val + 1, hc⟩)) (s.goto (.stba (bandBits ⟨c.val + 1, hc⟩)))
  | wsdLeave (h : s.timer = 0) : Effect (.wsd (bandBits 6)) .selp (s.goto .selp)
  | selp : Effect .selp .convp ((s.setChsel true).goto .convp)
  | convp : Effect .convp .sampp (s.goto .sampp)
  | samppStay (h : s.input.adcDone = false) : Effect .sampp .sampp s
  | samppLeave (h : s.input.adcDone = true) : Effect .sampp .selb ((s.setPotraw s.adcData).goto .selb)
  | selb : Effect .selb .scale ((s.setChsel false).goto .scale)
  | scale : Effect .scale (.push (bandBits 0))
      ((s.setPotBnd (scalePot s.potraw) (boundaries (scalePot s.potraw))).goto (.push (bandBits 0)))
  | push (c : Band) : Effect (.push (bandBits c)) (.map (bandBits c))
      ((s.setHistLevel c (s.hist[c].push s.raw[c]) (s.hist[c].push s.raw[c]).avg).goto (.map (bandBits c)))
  | mapNext (c : Band) (hc : c.val + 1 < 7) : Effect (.map (bandBits c)) (.push (bandBits ⟨c.val + 1, hc⟩))
      ((s.setOutpat c (mapLevel s.cfg s.level[c] s.bnd s.cfg.bandCfg[c])).goto (.push (bandBits ⟨c.val + 1, hc⟩)))
  | mapLeave : Effect (.map (bandBits 6)) .rend
      ((s.setOutpat 6 (mapLevel s.cfg s.level[(6 : Band)] s.bnd s.cfg.bandCfg[(6 : Band)])).goto .rend)
  | rend : Effect .rend .rsta ((s.setPorts s.outpat).goto .rsta)

variable {s}

theorem band_lt_or_six (c : Band) : c.val < 6 ∨ c = 6 := by
  revert c; decide

/-- A wait either stays or goes to its successor. -/
theorem wait_effect {s : State} {P : Instr → State → Prop} {i j : Instr} (stay : s.timer ≠ 0 → P i s.countDown)
    (leave : s.timer = 0 → P j (s.goto j)) : ∃ k, P k (s.wait j) := by
  obtain ⟨e0, e⟩ | ⟨e0, e⟩ := s.wait_cases j <;> rw [e]
  · exact ⟨j, leave e0⟩
  · exact ⟨i, stay e0⟩

/-- INVERSION. If a micro-operation answers a next state, it is one of the effects above. -/
theorem exec_effect {i : Instr} {t : State} (h : exec i s = .next t) : ∃ j, Effect s i j t := by
  cases i with
  | rsta => cases h; exact ⟨_, .rsta⟩
  | wrp => cases h; exact wait_effect .wrpStay .wrpLeave
  | rstd => cases h; exact ⟨_, .rstd⟩
  | wrs => cases h; exact wait_effect .wrsStay .wrsLeave
  | selp => cases h; exact ⟨_, .selp⟩
  | convp => cases h; exact ⟨_, .convp⟩
  | sampp =>
    rcases hd : s.input.adcDone
    · rw [exec_sampp_wait hd] at h; cases h; exact ⟨_, .samppStay hd⟩
    · rw [exec_sampp_done hd] at h; cases h; exact ⟨_, .samppLeave hd⟩
  | selb => cases h; exact ⟨_, .selb⟩
  | scale => cases h; exact ⟨_, .scale⟩
  | rend => cases h; exact ⟨_, .rend⟩
  | stba b => obtain ⟨c, rfl, -⟩ := withBand_next h; rw [exec_stba] at h; cases h; exact ⟨_, .stba c⟩
  | wsa b =>
    obtain ⟨c, rfl, -⟩ := withBand_next h
    rw [exec_wsa] at h; cases h
    exact wait_effect (.wsaStay c) (.wsaLeave c)
  | conv b => obtain ⟨c, rfl, -⟩ := withBand_next h; rw [exec_conv] at h; cases h; exact ⟨_, .conv c⟩
  | samp b =>
    obtain ⟨c, rfl, -⟩ := withBand_next h
    rcases hd : s.input.adcDone
    · rw [exec_samp_wait hd] at h; cases h; exact ⟨_, .sampStay c hd⟩
    · rw [exec_samp_done hd] at h; cases h; exact ⟨_, .sampLeave c hd⟩
  | stbd b => obtain ⟨c, rfl, -⟩ := withBand_next h; rw [exec_stbd] at h; cases h; exact ⟨_, .stbd c⟩
  | wsd b =>
    obtain ⟨c, rfl, -⟩ := withBand_next h
    rw [exec_wsd] at h; cases h
    obtain hc | rfl := band_lt_or_six c
    · rw [nextBand_lt hc]; exact wait_effect (.wsdStay c) fun h0 => .wsdNext c h0 (Nat.succ_lt_succ hc)
    · exact wait_effect (.wsdStay 6) .wsdLeave
  | push b => obtain ⟨c, rfl, -⟩ := withBand_next h; rw [exec_push] at h; cases h; exact ⟨_, .push c⟩
  | map b =>
    obtain ⟨c, rfl, -⟩ := withBand_next h
    rw [exec_map] at h; cases h
    obtain hc | rfl := band_lt_or_six c
    · rw [nextBand_lt hc]; exact ⟨_, .mapNext c (Nat.succ_lt_succ hc)⟩
    · exact ⟨_, .mapLeave⟩

theorem legal_bandBits (c : Band) : BandField.legal (bandBits c) = true := by
  revert c; decide

theorem decodeBanded_bandBits (c : Band) (f : BandField → Instr) : decodeBanded (bandBits c) f = .ok (f (bandBits c)) :=
  if_pos (legal_bandBits c)

/-- The micro-operation an effect leads to is the one current in the next period. -/
theorem Effect.current {i j : Instr} {u : State} (e : Effect s i j u) (hi : s.current = .ok i) : u.current = .ok j := by
  cases e <;> first
    | exact hi
    | exact s.countDown_current.trans hi
    | exact (State.goto_current _ _).trans rfl
    | exact (State.goto_current _ _).trans (decodeBanded_bandBits _ _)

end Sys2Proof.Machine
end

