-- ==== Sys2Proof/Laws/PerInstr.lean ====
section
/-! SUPPORT. One statement about every micro-operation, proved per constructor: the two fields of its encoded word are its
PHASE number and its BAND operand, and nothing else of the word is left over (30_encoding.md R67, R69). -/

namespace Sys2Proof.Laws.EncodeFields

/-- The word of `i` is its PHASE number over its BAND field. -/
def Statement (i : Instr) : Prop :=
  phaseOfWord (encode i) = phaseCode i ∧ bandOfWord (encode i) = bandCode i

theorem rsta : Statement .rsta := ⟨phaseOfWord_append _ _, bandOfWord_append _ _⟩
theorem wrp : Statement .wrp := ⟨phaseOfWord_append _ _, bandOfWord_append _ _⟩
theorem rstd : Statement .rstd := ⟨phaseOfWord_append _ _, bandOfWord_append _ _⟩
theorem wrs : Statement .wrs := ⟨phaseOfWord_append _ _, bandOfWord_append _ _⟩
theorem stba (b : BandField) : Statement (.stba b) := ⟨phaseOfWord_append _ _, bandOfWord_append _ _⟩
theorem wsa (b : BandField) : Statement (.wsa b) := ⟨phaseOfWord_append _ _, bandOfWord_append _ _⟩
theorem conv (b : BandField) : Statement (.conv b) := ⟨phaseOfWord_append _ _, bandOfWord_append _ _⟩
theorem samp (b : BandField) : Statement (.samp b) := ⟨phaseOfWord_append _ _, bandOfWord_append _ _⟩
theorem stbd (b : BandField) : Statement (.stbd b) := ⟨phaseOfWord_append _ _, bandOfWord_append _ _⟩
theorem wsd (b : BandField) : Statement (.wsd b) := ⟨phaseOfWord_append _ _, bandOfWord_append _ _⟩
theorem selp : Statement .selp := ⟨phaseOfWord_append _ _, bandOfWord_append _ _⟩
theorem convp : Statement .convp := ⟨phaseOfWord_append _ _, bandOfWord_append _ _⟩
theorem sampp : Statement .sampp := ⟨phaseOfWord_append _ _, bandOfWord_append _ _⟩
theorem selb : Statement .selb := ⟨phaseOfWord_append _ _, bandOfWord_append _ _⟩
theorem scale : Statement .scale := ⟨phaseOfWord_append _ _, bandOfWord_append _ _⟩
theorem push (b : BandField) : Statement (.push b) := ⟨phaseOfWord_append _ _, bandOfWord_append _ _⟩
theorem map (b : BandField) : Statement (.map b) := ⟨phaseOfWord_append _ _, bandOfWord_append _ _⟩
theorem rend : Statement .rend := ⟨phaseOfWord_append _ _, bandOfWord_append _ _⟩

end Sys2Proof.Laws.EncodeFields
end

