-- ==== Sys2Proof/Laws/Step.lean ====
section
/-! SUPPORT. What a step and a run can do, said once. -/

namespace Sys2Proof.Machine

/-- A meaning writes none of the model's own fields: the parameters, the inputs, the edge number and what the environment's
agents have been shown. -/
theorem exec_keeps_own {i : Instr} {s t : State} (h : exec i s = .next t) :
    t.cfg = s.cfg ∧ t.inputs = s.inputs ∧ t.edge = s.edge ∧ t.adc = s.adc ∧ t.azSeen = s.azSeen := by
  obtain ⟨j, e⟩ := exec_effect h
  cases e <;> exact ⟨rfl, rfl, rfl, rfl, rfl⟩

/-- A step that answers a next state is a power-on reset, or one micro-operation and the edge. -/
theorem step_next {s t : State} (h : step s = .next t) :
    (s.input.por = true ∧ t = s.closePeriod s.powerOnReset) ∨
    (s.input.por = false ∧ ∃ i u, s.current = .ok i ∧ exec i s = .next u ∧ t = s.closePeriod u) := by
  unfold step at h
  split at h
  · next hp => exact .inl ⟨hp, by simpa using h.symm⟩
  · next hp =>
    refine .inr ⟨by simpa using hp, ?_⟩
    split at h
    · next i hi =>
      obtain ⟨u, hu, ht⟩ := closeOutcome_next h
      exact ⟨i, u, hi, hu, ht⟩
    · cases h

/-- The same with everything the micro-operation can have done. -/
theorem step_effect {s t : State} (h : step s = .next t) :
    (s.input.por = true ∧ t = s.closePeriod s.powerOnReset) ∨
    (s.input.por = false ∧ ∃ i j u, s.current = .ok i ∧ Effect s i j u ∧ t = s.closePeriod u ∧ t.current = .ok j) := by
  obtain h | ⟨hp, i, u, hi, hu, rfl⟩ := step_next h
  · exact .inl h
  · obtain ⟨j, e⟩ := exec_effect hu
    exact .inr ⟨hp, i, j, u, hi, e, rfl, (State.closePeriod_current _ _).trans (e.current hi)⟩

/-- After a power-on reset RSTA is current (R163). -/
theorem State.powerOnReset_current (s : State) : s.powerOnReset.current = .ok .rsta :=
  s.powerOnReset.current_eq.trans rfl

/-- The step of a state whose current micro-operation answers. -/
theorem step_of_exec {s u : State} {i : Instr} (hp : s.input.por = false) (hi : s.current = .ok i)
    (hu : exec i s = .next u) : step s = .next (s.closePeriod u) := by
  simp [step, hp, hi, hu, closeOutcome]

/-- A placed word is the next one decoded, and no `POR` stands in its way. -/
theorem State.withFetchWord_spec (s : State) (n w : Nat) :
    (s.withFetchWord n w).current = decode (BitVec.ofNat 8 w) ∧ (s.withFetchWord n w).input.por = false := by
  have hs : phaseOfWord (BitVec.ofNat 8 w) ++ bandOfWord (BitVec.ofNat 8 w) = BitVec.ofNat 8 w := by
    generalize BitVec.ofNat 8 w = v
    revert v
    decide +kernel
  have hc (t : State) : t.withConversion.phase = t.phase ∧ t.withConversion.band = t.band ∧
      t.withConversion.inputs = t.inputs ∧ t.withConversion.edge = t.edge := by
    unfold State.withConversion
    split <;> exact ⟨rfl, rfl, rfl, rfl⟩
  obtain ⟨h1, h2, h3, h4⟩ := hc (s.loadSeq (BitVec.ofNat 8 w)).withPorLow
  refine ⟨(State.current_congr h1 h2).trans ?_, ?_⟩
  · rw [State.current, State.seq, ← hs]
    unfold State.withPorLow
    split <;> simp [hs]
  · rw [State.input_por, State.withFetchWord, State.inputAt_congr h3 h4]
    unfold State.withPorLow
    split <;> rfl

end Sys2Proof.Machine

namespace Sys2Proof.Safety

open Sys2Proof.Machine

theorem runsTo_zero (s : State) : RunsTo 0 s s := rfl

theorem runsTo_zero_iff {s t : State} : RunsTo 0 s t ↔ s = t :=
  ⟨Host.Outcome.next.inj, fun h => h ▸ rfl⟩

theorem runsTo_succ {n : Nat} {s t u : State} (h : step s = .next t) (r : RunsTo n t u) : RunsTo (n + 1) s u := by
  have h' : Sys2Proof.core.step s = .next t := h
  simpa [RunsTo, Host.Core.run, h'] using r

theorem runsTo_succ_iff {n : Nat} {s u : State} : RunsTo (n + 1) s u ↔ ∃ t, step s = .next t ∧ RunsTo n t u := by
  constructor
  · intro r
    rcases h : step s with t | f | e
    · have h' : Sys2Proof.core.step s = .next t := h
      exact ⟨t, rfl, by simpa [RunsTo, Host.Core.run, h'] using r⟩
    · exact nomatch f
    · have h' : Sys2Proof.core.step s = .refused e := h
      simp [RunsTo, Host.Core.run, h'] at r
  · rintro ⟨t, h, r⟩
    exact runsTo_succ h r

theorem runsTo_one {s t : State} (h : step s = .next t) : RunsTo 1 s t := runsTo_succ h (runsTo_zero t)

/-- Two runs end to end. -/
theorem runsTo_add {m n : Nat} {s t u : State} (a : RunsTo m s t) (b : RunsTo n t u) : RunsTo (m + n) s u := by
  induction m generalizing s with
  | zero => simpa [runsTo_zero_iff.mp a] using b
  | succ m ih =>
    obtain ⟨v, hv, r⟩ := runsTo_succ_iff.mp a
    have := runsTo_succ hv (ih r)
    rwa [Nat.add_right_comm] at this

/-- A run has one end. -/
theorem runsTo_unique {n : Nat} {s t u : State} (a : RunsTo n s t) (b : RunsTo n s u) : t = u :=
  Host.Outcome.next.inj (a.symm.trans b)

end Sys2Proof.Safety
end

