-- ==== Sys2Proof/Tests/Slice0.lean ====
section
/-! SUPPORT. The model's own tests. Expected results come from spec/95_test_vectors.md (V1 to V17, P1 to P5), from the examples
in the rules and from words written out by hand from the encoding of 30_encoding.md R67 and R70. The witness theorems at the
end give, for every obligation with hypotheses, states that meet them, clause by clause. -/

namespace Sys2Proof.Tests

open Sys2Proof Sys2Proof.Machine Sys2Proof.Safety

/-! ### Helpers -/

/-- No conversion result, no `POR`. -/
def quiet : Input := ⟨false, false, 0⟩

/-- The reset state with the word `w` in SEQ, a quiet input at the next edge, and a conversion to wait for in a busy-wait. -/
def at' (w : Nat) : State := { State.reset.loadSeq (BitVec.ofNat 8 w) with inputs := [quiet] }.withConversion

/-- The same with `ADC_DONE = 1` and the value `v` at the next edge. -/
def atDone (w v : Nat) : State := { at' w with inputs := [⟨false, true, v⟩] }

/-- A part of the next state of one step, if there is one. -/
def see {α : Type} (s : State) (f : State → α) : Option α :=
  match step s with
  | .next t => some (f t)
  | .fault _ => none
  | .refused _ => none

/-- The refusal of one step, if it is one. -/
def refusal (s : State) : Option Refusal :=
  match step s with
  | .next _ => none
  | .fault _ => none
  | .refused r => some r

/-! ### Words written out from R67 and R70: five bits PHASE, three bits BAND -/

theorem test_decode_rsta : (decode 0b00000000#8).toOption = some .rsta := by decide
theorem test_decode_wrp : (decode 0b00001000#8).toOption = some .wrp := by decide
theorem test_decode_rstd : (decode 0b00010000#8).toOption = some .rstd := by decide
theorem test_decode_wrs : (decode 0b00011000#8).toOption = some .wrs := by decide
theorem test_decode_stba : (decode 0b00100110#8).toOption = some (.stba 6) := by decide
theorem test_decode_wsa : (decode 0b00101011#8).toOption = some (.wsa 3) := by decide
theorem test_decode_conv : (decode 0b00110101#8).toOption = some (.conv 5) := by decide
theorem test_decode_samp : (decode 0b00111001#8).toOption = some (.samp 1) := by decide
theorem test_decode_stbd : (decode 0b01000010#8).toOption = some (.stbd 2) := by decide
theorem test_decode_wsd : (decode 0b01001110#8).toOption = some (.wsd 6) := by decide
theorem test_decode_selp : (decode 0b01010000#8).toOption = some .selp := by decide
theorem test_decode_convp : (decode 0b01011000#8).toOption = some .convp := by decide
theorem test_decode_sampp : (decode 0b01100000#8).toOption = some .sampp := by decide
theorem test_decode_selb : (decode 0b01101000#8).toOption = some .selb := by decide
theorem test_decode_scale : (decode 0b01110000#8).toOption = some .scale := by decide
theorem test_decode_push : (decode 0b01111110#8).toOption = some (.push 6) := by decide
theorem test_decode_map : (decode 0b10000100#8).toOption = some (.map 4) := by decide
theorem test_decode_rend : (decode 0b10001000#8).toOption = some .rend := by decide

/-- The illegal words listed in 95_test_vectors.md part 2, by their reason (R72). -/
theorem test_illegal_words :
    [0x01, 0x27, 0x7F, 0x87, 0x89, 0x90, 0xFF].map (fun w => refusal (at' w)) =
      [some (.illegalSeq .bandNotZero), some (.illegalSeq .bandSeven), some (.illegalSeq .bandSeven),
       some (.illegalSeq .bandSeven), some (.illegalSeq .bandNotZero), some (.illegalSeq .reservedPhase),
       some (.illegalSeq .reservedPhase)] := by decide

/-- The host's form of the decoder refuses what the decoder refuses, and a number that is no 8-bit word. -/
theorem test_decodeTableWord :
    [0x3D, 0x3F, 0x91, 0x100].map (decodeTableWord 8) = [some (.samp 5), none, none, none] := by decide

/-- The listing syntax of R82. -/
theorem test_listing : [Instr.rsta, .stba 0, .push 6].map Instr.listing = ["RSTA", "STBA 0", "PUSH 6"] := by decide

/-! ### WellFormed: the one check, an ill-formed term for each banded micro-operation -/

theorem test_wellFormed_refuses_band_seven :
    [Instr.stba 7, .wsa 7, .conv 7, .samp 7, .stbd 7, .wsd 7, .push 7, .map 7].map Instr.wellFormed =
      List.replicate 8 false := by decide

theorem test_wellFormed_accepts_band_six :
    [Instr.stba 6, .wsa 6, .conv 6, .samp 6, .stbd 6, .wsd 6, .push 6, .map 6, .rend].map Instr.wellFormed =
      List.replicate 9 true := by decide

/-! ### Reset and the host's entry -/

/-- R162: the pins after reset, for a reset line that is active low. -/
theorem test_reset_pins :
    State.reset.pinsAt false = ⟨false, false, true, true, Vector.replicate 7 0⟩ := by decide

/-- V8u: `POR` gives the reset state from SAMP 6 with the strobe low and a picture on the buses. -/
theorem test_por :
    see { at' 0x3E with inputs := [⟨true, true, 9⟩], stbl := true, timer := 3, port := #v[1, 1, 63, 63, 252, 248, 128],
                        hist := Vector.replicate 7 ⟨1, 2, 3, 4⟩ }
      (fun t => (t.seq.toNat, t.stbl, t.timer, t.port, t.hist)) =
    some (0, false, 0, Vector.replicate 7 0, Vector.replicate 7 ⟨0, 0, 0, 0⟩) := by decide

/-- A word placed by the host runs in the very next step. -/
theorem test_withFetchWord :
    see (State.reset.withFetchWord 8 0x26) (fun t => (t.seq.toNat, t.stbl, t.timer)) = some (0x2E, true, 39) ∧
    see (State.reset.withFetchWord 8 0x60) (fun t => t.seq.toNat) = some 0x68 := by decide

/-! ### V8: the synchronizer -/

theorem test_rsta_V8a : see (at' 0x00) (fun t => (t.seq.toNat, t.rstl, t.timer)) = some (0x08, true, 9) := by decide

theorem test_wrp_V8b :
    see { at' 0x08 with timer := 9, rstl := true } (fun t => (t.seq.toNat, t.timer, t.rstl)) = some (0x08, 8, true) := by
  decide

theorem test_wrp_V8d :
    see { at' 0x08 with timer := 0, rstl := true } (fun t => (t.seq.toNat, t.timer, t.rstl)) = some (0x10, 0, true) := by
  decide

theorem test_rstd_V8e :
    see { at' 0x10 with rstl := true } (fun t => (t.seq.toNat, t.rstl, t.timer)) = some (0x18, false, 79) := by decide

theorem test_wrs_V8f : see (at' 0x18) (fun t => (t.seq.toNat, t.timer)) = some (0x20, 0) := by decide

theorem test_stba_V8h : see (at' 0x26) (fun t => (t.seq.toNat, t.stbl, t.timer)) = some (0x2E, true, 39) := by decide

theorem test_wsa_V8i : see { at' 0x2B with timer := 17 } (fun t => (t.seq.toNat, t.timer)) = some (0x2B, 16) := by decide

theorem test_wsa_V8j : see (at' 0x2B) (fun t => (t.seq.toNat, t.timer)) = some (0x33, 0) := by decide

theorem test_conv_V8k : see (at' 0x33) (fun t => t.seq.toNat) = some 0x3B := by decide

theorem test_conv_V8k_pins :
    { at' 0x33 with stbl := true }.pinsAt true = ⟨true, false, false, false, Vector.replicate 7 0⟩ := by decide

theorem test_samp_V8l :
    see { at' 0x3B with inputs := [⟨false, false, 777⟩], raw := #v[0, 0, 0, 5, 0, 0, 0] }
      (fun t => (t.seq.toNat, t.raw)) = some (0x3B, #v[0, 0, 0, 5, 0, 0, 0]) := by decide

/-- R160: before any start the flag cannot read 1, so SAMP stays; in the period after a start it can (R171, D10). -/
theorem test_done_without_start :
    see { atDone 0x3E 1023 with adc := .idle } (fun t => (t.seq.toNat, t.raw)) = some (0x3E, Vector.replicate 7 0) ∧
    see { atDone 0x3E 1023 with adc := .started false } (fun t => (t.seq.toNat, t.adc)) = some (0x46, .done false 1023) := by
  decide

theorem test_samp_V8o :
    see (atDone 0x3E 1023) (fun t => (t.seq.toNat, t.raw)) = some (0x46, #v[0, 0, 0, 0, 0, 0, 1023]) := by decide

theorem test_stbd_V8p :
    see { at' 0x43 with stbl := true } (fun t => (t.seq.toNat, t.stbl, t.timer)) = some (0x4B, false, 39) := by decide

theorem test_wsd_V8r : see (at' 0x4D) (fun t => t.seq.toNat) = some 0x26 := by decide

theorem test_wsd_V8t : see (at' 0x4E) (fun t => (t.seq.toNat, t.band)) = some (0x50, 0) := by decide

/-! ### V9: the scaler -/

theorem test_selp_V9a : see (at' 0x50) (fun t => (t.seq.toNat, t.chsel)) = some (0x58, true) := by decide

theorem test_convp_V9b : see (at' 0x58) (fun t => t.seq.toNat) = some 0x60 := by decide

theorem test_convp_V9b_pins :
    { at' 0x58 with chsel := true }.pinsAt true = ⟨true, true, false, true, Vector.replicate 7 0⟩ := by decide

theorem test_sampp_V9c : see { at' 0x60 with potraw := 3 } (fun t => (t.seq.toNat, t.potraw)) = some (0x60, 3) := by decide

theorem test_sampp_V9d : see (atDone 0x60 200) (fun t => (t.seq.toNat, t.potraw)) = some (0x68, 200) := by decide

theorem test_selb_V9e :
    see { at' 0x68 with chsel := true } (fun t => (t.seq.toNat, t.chsel)) = some (0x70, false) := by decide

theorem test_scale_V9f :
    see { at' 0x70 with potraw := 200 } (fun t => (t.seq.toNat, t.pot, t.bnd)) =
      some (0x78, 25, #v[135, 145, 155, 165, 175]) := by decide

theorem test_scale_V9j :
    see { at' 0x70 with potraw := 1023 } (fun t => (t.pot, t.bnd)) = some (127, #v[237, 247, 257, 267, 277]) := by decide

/-! ### V10: the filter -/

/-- V10m: band 2 is pushed, band 3 is left alone. -/
theorem test_push_V10m :
    see { at' 0x7A with
          hist := #v[⟨0, 0, 0, 0⟩, ⟨0, 0, 0, 0⟩, ⟨5, 5, 5, 5⟩, ⟨9, 9, 9, 9⟩, ⟨0, 0, 0, 0⟩, ⟨0, 0, 0, 0⟩, ⟨0, 0, 0, 0⟩]
          raw := #v[0, 0, 1, 0, 0, 0, 0] }
      (fun t => (t.seq.toNat, t.hist[2], t.level[2], t.hist[3], t.level[3])) =
      some (0x82, ⟨5, 5, 5, 1⟩, 4, ⟨9, 9, 9, 9⟩, 0) := by decide

/-- V10d: truncation, and slot 0 is discarded unread. -/
theorem test_push_V10d :
    see { at' 0x78 with hist := #v[⟨9, 1, 1, 1⟩, ⟨0, 0, 0, 0⟩, ⟨0, 0, 0, 0⟩, ⟨0, 0, 0, 0⟩, ⟨0, 0, 0, 0⟩, ⟨0, 0, 0, 0⟩, ⟨0, 0, 0, 0⟩] }
      (fun t => (t.hist[0], t.level[0])) = some (⟨1, 1, 1, 0⟩, 0) := by decide

/-! ### V11 to V15: the mapper -/

/-- V11 and V12: the bucket at every edge of the ladder, for the two floors and for the highest boundaries. -/
theorem test_bucket_V11 :
    [0, 50, 51, 100, 101, 110, 111, 120, 121, 130, 131, 140, 141, 150, 151, 1023].map
      (fun l => (bucket l 50 #v[110, 120, 130, 140, 150], bucket l 100 #v[110, 120, 130, 140, 150])) =
      [(0, 0), (0, 0), (1, 0), (1, 0), (1, 1), (1, 1), (2, 2), (2, 2), (3, 3), (3, 3), (4, 4), (4, 4), (5, 5), (5, 5),
       (6, 6), (6, 6)] ∧
    [100, 101, 237, 238, 277, 278].map (fun l => bucket l 100 #v[237, 247, 257, 267, 277]) = [0, 1, 1, 2, 5, 6] := by
  decide

/-- V13: Family B for three anchors. -/
theorem test_patterns_V13 :
    [1, 2, 3, 4, 5, 6].map (fun k => (patB 7 k, patB 6 k, patB 5 k)) =
      [(128, 64, 32), (192, 96, 48), (224, 112, 56), (240, 120, 60), (248, 124, 62), (252, 126, 63)] := by decide

/-- V14f: Family B at the top bucket. -/
theorem test_map_V14f :
    see { at' 0x85 with level := #v[0, 0, 0, 0, 0, 151, 0], bnd := #v[110, 120, 130, 140, 150] }
      (fun t => (t.seq.toNat, t.outpat)) = some (0x7E, #v[0, 0, 0, 0, 0, 252, 0]) := by decide

/-- V14g: band 6 leaves the loop. -/
theorem test_map_V14g :
    see { at' 0x86 with level := #v[0, 0, 0, 0, 0, 0, 111], bnd := #v[110, 120, 130, 140, 150] }
      (fun t => (t.seq.toNat, t.outpat)) = some (0x88, #v[0, 0, 0, 0, 0, 0, 192]) := by decide

/-- V15. -/
theorem test_rend_V15 :
    see { at' 0x88 with outpat := #v[7, 0, 1, 63, 128, 0, 252] } (fun t => (t.seq.toNat, t.port)) =
      some (0x00, #v[7, 0, 1, 63, 128, 0, 252]) := by decide

/-- V17: the whole-cycle function for two potentiometer values. -/
theorem test_cycle_V17 :
    (cycle Params.default (Vector.replicate 7 ⟨120, 120, 120, 120⟩) (Vector.replicate 7 120) 0).2 =
      #v[3, 3, 3, 3, 192, 192, 192] ∧
    (cycle Params.default (Vector.replicate 7 ⟨120, 120, 120, 120⟩) (Vector.replicate 7 120) 80).2 =
      #v[1, 1, 1, 1, 128, 128, 128] := by decide

/-- R179: the cycle lengths of the default parameters for `d = 2` and `d = 100`. -/
theorem test_cyclePeriods_R179 :
    cyclePeriods Params.default (fun _ => 2) 2 = 708 ∧ cyclePeriods Params.default (fun _ => 100) 100 = 1492 := by decide

/-! ### Witnesses: for every obligation with hypotheses, states and operands that meet them -/

/-- A state at `i` with the three lines as the line invariant has them and `n` quiet inputs. -/
def lined (i : Instr) (n : Nat) : State :=
  { State.reset.goto i with
    rstl := resetAsserted i, stbl := strobeAsserted i, chsel := potSelected i, inputs := List.replicate n quiet }

/-- A build whose waits are one period long, within R8 at 10 kHz. -/
def fast : Params := { Params.default with fClk := 10000, nRp := 1, nRs := 1, nSt := 1, timerW := 1 }

theorem fast_valid : fast.Valid := by decide

theorem lined_current {i : Instr} {n : Nat} (h : decodeFields (phaseCode i) (bandCode i) = .ok i) :
    (lined i n).current = .ok i :=
  (State.current_eq _).trans h

theorem lined_linesOk {i : Instr} {n : Nat} (h : decodeFields (phaseCode i) (bandCode i) = .ok i) : LinesOk (lined i n) :=
  ⟨i, lined_current h, rfl, rfl, rfl⟩

theorem witness_StepRunsCurrentMicroOperation :
    (lined (.map 6) 1).input.por = false ∧ (lined (.map 6) 1).current = .ok (.map 6) := ⟨rfl, lined_current rfl⟩

theorem witness_IllegalSeqIsRefused :
    (at' 0x27).current = .error .bandSeven ∧ (at' 0x27).input.por = false ∧
    { at' 0x90 with inputs := [⟨true, false, 0⟩] }.current = .error .reservedPhase ∧
    { at' 0x90 with inputs := [⟨true, false, 0⟩] }.input.por = true :=
  ⟨(State.current_eq _).trans rfl, rfl, (State.current_eq _).trans rfl, rfl⟩

theorem witness_DecodeOfEncodeIsIdentity : (Instr.wsd 6).wellFormed = true ∧ Instr.rend.wellFormed = true := by decide

theorem witness_EncodeOfDecodeIsIdentity : decode 0x86#8 = .ok (.map 6) := by rfl

theorem witness_NextSeqFollowsTable :
    (lined (.wsd 6) 1).input.por = false ∧ (lined (.wsd 6) 1).current = .ok (.wsd 6) := ⟨rfl, lined_current rfl⟩

theorem witness_RstaAssertsResetLine :
    LinesOk (lined .rsta 1) ∧ (lined .rsta 1).current = .ok .rsta ∧ (lined .rsta 1).input.por = false ∧
    LinesOk (lined .rstd 1) ∧ (lined .rstd 1).current = .ok .rstd ∧ Instr.rstd ∈ [Instr.rsta, .wrp, .rstd] ∧
    ∃ t, exec .rsta (lined .rsta 1) = .next t :=
  ⟨lined_linesOk rfl, lined_current rfl, rfl, lined_linesOk rfl, lined_current rfl, by decide, _, rfl⟩

/-- The first period of WRP, with the count RSTA loads, and its last. -/
theorem witness_WrpWaitsResetPulse :
    { lined .wrp 10 with timer := 9 }.cfg.Valid ∧ { lined .wrp 10 with timer := 9 }.current = .ok .wrp ∧
    { lined .wrp 10 with timer := 9 }.timer = (lined .wrp 10).cfg.nRp - 1 ∧
    NoPor { lined .wrp 10 with timer := 9 } (lined .wrp 10).cfg.nRp ∧
    { lined .wrp 10 with timer := 9 }.timer ≠ 0 ∧ (lined .wrp 10).timer = 0 ∧ LinesOk (lined .wrp 10) ∧
    (lined .wrp 10).current = .ok .wrp :=
  ⟨by decide, (State.current_eq _).trans rfl, rfl, by decide, by decide, rfl, lined_linesOk rfl, lined_current rfl⟩

theorem witness_RstdDeassertsResetLine :
    (lined .rstd 1).current = .ok .rstd ∧ (lined .rstd 1).input.por = false ∧ ∃ t, exec .rstd (lined .rstd 1) = .next t :=
  ⟨lined_current rfl, rfl, _, rfl⟩

theorem witness_WrsWaitsResetSettle :
    { lined .wrs 80 with timer := 79 }.cfg.Valid ∧ { lined .wrs 80 with timer := 79 }.current = .ok .wrs ∧
    { lined .wrs 80 with timer := 79 }.timer = (lined .wrs 80).cfg.nRs - 1 ∧
    NoPor { lined .wrs 80 with timer := 79 } (lined .wrs 80).cfg.nRs ∧
    { lined .wrs 80 with timer := 79 }.timer ≠ 0 ∧ (lined .wrs 80).timer = 0 ∧ LinesOk (lined .wrs 80) ∧
    (lined .wrs 80).current = .ok .wrs :=
  ⟨by decide, (State.current_eq _).trans rfl, rfl, by decide, by decide, rfl, lined_linesOk rfl, lined_current rfl⟩

theorem witness_StbaAssertsStrobe :
    LinesOk (lined (.stba (bandBits 6)) 1) ∧ (lined (.stba (bandBits 6)) 1).current = .ok (.stba (bandBits 6)) ∧
    (lined (.stba (bandBits 6)) 1).input.por = false ∧ ∃ t, exec (.stba (bandBits 6)) (lined (.stba (bandBits 6)) 1) = .next t :=
  ⟨lined_linesOk rfl, lined_current rfl, rfl, _, rfl⟩

theorem witness_WsaWaitsWithStrobeAsserted :
    { lined (.wsa (bandBits 0)) 40 with timer := 39 }.cfg.Valid ∧
    { lined (.wsa (bandBits 0)) 40 with timer := 39 }.current = .ok (.wsa (bandBits 0)) ∧
    { lined (.wsa (bandBits 0)) 40 with timer := 39 }.timer = (lined (.wsa (bandBits 0)) 40).cfg.nSt - 1 ∧
    NoPor { lined (.wsa (bandBits 0)) 40 with timer := 39 } (lined (.wsa (bandBits 0)) 40).cfg.nSt ∧
    { lined (.wsa (bandBits 0)) 40 with timer := 39 }.timer ≠ 0 ∧ (lined (.wsa (bandBits 6)) 1).timer = 0 ∧
    LinesOk (lined (.wsa (bandBits 6)) 1) ∧ (lined (.wsa (bandBits 6)) 1).current = .ok (.wsa (bandBits 6)) :=
  ⟨by decide, (State.current_eq _).trans rfl, rfl, by decide, by decide, rfl, lined_linesOk rfl, lined_current rfl⟩

theorem witness_ConvStartsBandConversion :
    LinesOk (lined (.conv (bandBits 6)) 1) ∧ (lined (.conv (bandBits 6)) 1).current = .ok (.conv (bandBits 6)) ∧
    (lined (.conv (bandBits 6)) 1).input.por = false ∧ ∃ t, exec (.conv (bandBits 6)) (lined (.conv (bandBits 6)) 1) = .next t :=
  ⟨lined_linesOk rfl, lined_current rfl, rfl, _, rfl⟩

/-- The capture, the stay, and the line levels of SAMP. -/
theorem witness_SampCapturesBandSample :
    (atDone 0x3E 1023).input.adcDone = true ∧ (at' 0x38).input.adcDone = false ∧
    LinesOk (lined (.samp (bandBits 6)) 1) ∧ (lined (.samp (bandBits 6)) 1).current = .ok (.samp (bandBits 6)) :=
  ⟨rfl, rfl, lined_linesOk rfl, lined_current rfl⟩

theorem witness_StbdDeassertsStrobe :
    (lined (.stbd (bandBits 6)) 1).current = .ok (.stbd (bandBits 6)) ∧ (lined (.stbd (bandBits 6)) 1).input.por = false ∧
    ∃ t, exec (.stbd (bandBits 6)) (lined (.stbd (bandBits 6)) 1) = .next t :=
  ⟨lined_current rfl, rfl, _, rfl⟩

/-- The wait of WSD, and both ways out of it: band 5 to band 6, band 6 to SELP. -/
theorem witness_WsdWaitsThenNextBand :
    { lined (.wsd (bandBits 6)) 40 with timer := 39 }.cfg.Valid ∧
    { lined (.wsd (bandBits 6)) 40 with timer := 39 }.current = .ok (.wsd (bandBits 6)) ∧
    { lined (.wsd (bandBits 6)) 40 with timer := 39 }.timer = (lined (.wsd (bandBits 6)) 40).cfg.nSt - 1 ∧
    NoPor { lined (.wsd (bandBits 6)) 40 with timer := 39 } (lined (.wsd (bandBits 6)) 40).cfg.nSt ∧
    { lined (.wsd (bandBits 6)) 40 with timer := 39 }.timer ≠ 0 ∧
    (lined (.wsd (bandBits 5)) 1).timer = 0 ∧ (5 : Band).val < 6 ∧ (lined (.wsd (bandBits 6)) 1).timer = 0 ∧ (6 : Band).val = 6 ∧
    LinesOk (lined (.wsd (bandBits 6)) 1) :=
  ⟨by decide, (State.current_eq _).trans rfl, rfl, by decide, by decide, rfl, by decide, rfl, rfl, lined_linesOk rfl⟩

theorem witness_SelpSelectsPotentiometer :
    LinesOk (lined .selp 1) ∧ (lined .selp 1).current = .ok .selp ∧ (lined .selp 1).input.por = false ∧
    ∃ t, exec .selp (lined .selp 1) = .next t := ⟨lined_linesOk rfl, lined_current rfl, rfl, _, rfl⟩

theorem witness_ConvpStartsPotConversion :
    LinesOk (lined .convp 1) ∧ (lined .convp 1).current = .ok .convp ∧ (lined .convp 1).input.por = false ∧
    ∃ t, exec .convp (lined .convp 1) = .next t := ⟨lined_linesOk rfl, lined_current rfl, rfl, _, rfl⟩

theorem witness_SamppCapturesPotSample :
    (atDone 0x60 1023).input.adcDone = true ∧ (at' 0x60).input.adcDone = false ∧
    LinesOk (lined .sampp 1) ∧ (lined .sampp 1).current = .ok .sampp :=
  ⟨rfl, rfl, lined_linesOk rfl, lined_current rfl⟩

/-- SELB; the one micro-operation that sets CHSEL; and the one step that reaches SCALE. -/
theorem witness_SelbRestoresBandChannel :
    (lined .selb 1).current = .ok .selb ∧ (lined .selb 1).input.por = false ∧
    (∃ t, exec .selp (lined .selp 1) = .next t ∧ (lined .selp 1).chsel = false ∧ t.chsel = true) ∧
    ∃ t, step (lined .selb 1) = .next t ∧ t.current = .ok .scale :=
  ⟨lined_current rfl, rfl, ⟨_, rfl, rfl, rfl⟩,
    _, step_of_exec rfl (lined_current rfl) rfl, (State.closePeriod_current _ _).trans ((State.goto_current _ _).trans rfl)⟩

/-- SCALE, at the largest reading of ten bits. -/
theorem witness_ScaleComputesBoundaries :
    (lined .scale 1).current = .ok .scale ∧ (lined .scale 1).input.por = false ∧ (lined .scale 1).cfg.Valid ∧
    { lined .scale 1 with potraw := 1023 }.potraw < 2 ^ (lined .scale 1).cfg.sampleW :=
  ⟨lined_current rfl, rfl, by decide, by decide⟩

/-- Every register within its width, at the top of every width. -/
def wide : State :=
  { lined (.push (bandBits 6)) 1 with
    timer := 127, raw := Vector.replicate 7 1023, potraw := 1023, pot := 127, bnd := Vector.replicate 5 511
    hist := Vector.replicate 7 ⟨1023, 1023, 1023, 1023⟩, level := Vector.replicate 7 1023
    outpat := Vector.replicate 7 255, port := Vector.replicate 7 255 }

theorem wide_widthsOk : WidthsOk wide := by unfold WidthsOk; decide

theorem wide_current : wide.current = .ok (.push (bandBits 6)) := (State.current_eq _).trans rfl

theorem witness_PushShiftsAndAverages :
    WidthsOk wide ∧ wide.current = .ok (.push (bandBits 6)) ∧ wide.input.por = false := ⟨wide_widthsOk, wide_current, rfl⟩

/-- MAP below the last band, at it, and current with the data flow as the invariant has it. -/
theorem witness_MapWritesPattern :
    (5 : Band).val < 6 ∧ (6 : Band).val = 6 ∧
    let s := { lined (.map (bandBits 6)) 1 with bnd := boundaries 0 }
    DataOk s ∧ s.current = .ok (.map (bandBits 6)) ∧ s.input.por = false := by
  have hc : ({ lined (.map (bandBits 6)) 1 with bnd := boundaries 0 } : State).current = .ok (.map (bandBits 6)) :=
    (State.current_eq _).trans rfl
  refine ⟨by decide, rfl, ⟨_, hc, fun _ => ⟨rfl, rfl⟩, fun b _ => ?_, fun b _ => ?_, fun b => ⟨0, by decide, ?_⟩⟩, hc, rfl⟩ <;>
    revert b <;> decide

theorem witness_RendWritesAllPorts :
    (lined .rend 1).current = .ok .rend ∧ (lined .rend 1).input.por = false ∧ ∃ t, exec .rend (lined .rend 1) = .next t :=
  ⟨lined_current rfl, rfl, _, rfl⟩

theorem witness_BandSevenIsRefused : (Instr.map 7).wellFormed = false ∧ (Instr.map 6).wellFormed = true := by decide

/-- Each data register changed by its one writer. -/
theorem witness_DataRegistersHaveOneWriter :
    (∃ t, exec (.samp (bandBits 6)) (atDone 0x3E 5) = .next t ∧ t.raw[(6 : Band)] ≠ (atDone 0x3E 5).raw[(6 : Band)]) ∧
    (∃ t, exec .sampp (atDone 0x60 5) = .next t ∧ t.potraw ≠ (atDone 0x60 5).potraw) ∧
    (∃ t, exec .scale wide = .next t ∧ t.bnd ≠ wide.bnd) ∧
    (∃ t, exec (.push (bandBits 6)) { wide with raw := Vector.replicate 7 0 } = .next t ∧
      t.hist[(6 : Band)] ≠ wide.hist[(6 : Band)] ∧ t.level[(6 : Band)] ≠ wide.level[(6 : Band)]) ∧
    (∃ t, exec (.map (bandBits 6)) wide = .next t ∧ t.outpat[(6 : Band)] ≠ wide.outpat[(6 : Band)]) ∧
    ∃ t, exec .rend { wide with outpat := Vector.replicate 7 0 } = .next t ∧ t.port ≠ wide.port :=
  ⟨⟨_, rfl, by decide⟩, ⟨_, rfl, by decide⟩, ⟨_, rfl, by decide⟩, ⟨_, rfl, by decide⟩, ⟨_, rfl, by decide⟩, _, rfl, by decide⟩

/-- Each control register changed by a writer; BAND incremented by WSD 5 and cleared by MAP 6. -/
theorem witness_ControlRegistersHaveTheirWriters :
    (∃ t, exec .rsta (lined .rsta 1) = .next t ∧ t.rstl ≠ (lined .rsta 1).rstl ∧ t.timer ≠ (lined .rsta 1).timer) ∧
    (∃ t, exec (.stbd (bandBits 6)) (lined (.stbd (bandBits 6)) 1) = .next t ∧ t.stbl ≠ (lined (.stbd (bandBits 6)) 1).stbl) ∧
    (∃ t, exec .selb (lined .selb 1) = .next t ∧ t.chsel ≠ (lined .selb 1).chsel) ∧
    (∃ t, exec (.wsd (bandBits 5)) (lined (.wsd (bandBits 5)) 1) = .next t ∧
      (lined (.wsd (bandBits 5)) 1).current = .ok (.wsd (bandBits 5)) ∧ t.band ≠ (lined (.wsd (bandBits 5)) 1).band) ∧
    ∃ t, exec (.map (bandBits 6)) (lined (.map (bandBits 6)) 1) = .next t ∧
      (lined (.map (bandBits 6)) 1).current = .ok (.map (bandBits 6)) ∧ t.band ≠ (lined (.map (bandBits 6)) 1).band :=
  ⟨⟨_, rfl, by decide, by decide⟩, ⟨_, rfl, by decide⟩, ⟨_, rfl, by decide⟩, ⟨_, rfl, lined_current rfl, by decide⟩,
    _, rfl, lined_current rfl, by decide⟩

theorem witness_WaitCountsDownToZero :
    { lined .wrs 4 with timer := 3 }.current = .ok .wrs ∧ NoPor { lined .wrs 4 with timer := 3 } (3 + 1) ∧
    (lined (.wsd (bandBits 6)) 1).current = .ok (.wsd (bandBits 6)) ∧ NoPor (lined (.wsd (bandBits 6)) 1) (0 + 1) :=
  ⟨(State.current_eq _).trans rfl, by decide, lined_current rfl, by decide⟩

/-- Two periods of no answer, then an answer, in SAMP 6; then `POR` instead, in SAMPP. -/
theorem witness_HangHoldsEverything :
    let s := { lined (.samp (bandBits 6)) 0 with inputs := [quiet, quiet, ⟨false, true, 5⟩], adc := .busy false }
    let u := { lined .sampp 0 with inputs := [quiet, quiet, ⟨true, true, 5⟩], adc := .busy true }
    (s.current = .ok (.samp (bandBits 6)) ∧ LinesOk s ∧
      (∀ k, k < 2 → (s.inputAt k).por = false ∧ (s.inputAt k).adcDone = false) ∧
      (s.inputAt 2).por = false ∧ (s.inputAt 2).adcDone = true) ∧
    (u.current = .ok .sampp ∧ LinesOk u ∧ (∀ k, k < 2 → (u.inputAt k).por = false ∧ (u.inputAt k).adcDone = false) ∧
      (u.inputAt 2).por = true) :=
  ⟨⟨(State.current_eq _).trans rfl, ⟨_, (State.current_eq _).trans rfl, rfl, rfl, rfl⟩, by decide, rfl, rfl⟩,
    (State.current_eq _).trans rfl, ⟨_, (State.current_eq _).trans rfl, rfl, rfl, rfl⟩, by decide, rfl⟩

theorem witness_ContractMakesSampleLastTwoPeriods :
    (lined .convp 2).current = .ok .convp ∧ (lined .convp 2).adcStart = true ∧ (lined .convp 2).input.por = false ∧
    ∃ t, step (lined .convp 2) = .next t ∧ t.input.por = false ∧ t.adcKeepsContract = true :=
  ⟨lined_current rfl, rfl, rfl, _, step_of_exec rfl (lined_current rfl) rfl, rfl, rfl⟩

/-- A start, and a conversion in flight that is waited for. -/
theorem witness_NoStartWhileConversionInFlight :
    (lined (.conv (bandBits 6)) 1).adcStart = true ∧ (lined (.conv (bandBits 6)) 1).adc.inFlight = false ∧
    { lined (.samp (bandBits 6)) 1 with adc := .busy false }.adc.inFlight = true ∧
    { lined (.samp (bandBits 6)) 1 with adc := .busy false }.current = .ok (.samp (bandBits 6)) ∧
    LinesOk { lined (.samp (bandBits 6)) 1 with adc := .busy false } ∧
    ∃ t, step { lined (.samp (bandBits 6)) 1 with adc := .busy false } = .next t :=
  ⟨rfl, rfl, rfl, (State.current_eq _).trans rfl, ⟨_, (State.current_eq _).trans rfl, rfl, rfl, rfl⟩,
    _, step_of_exec rfl ((State.current_eq _).trans rfl) (exec_samp_wait rfl)⟩

/-- A flag that drops after completion, and one that stays up while the environment would change the value, between starts. -/
theorem witness_AdcRaisesDoneOnlyForStartedConversion :
    let s := { lined .wrs 0 with inputs := [quiet, ⟨false, true, 8⟩], adc := .done false 7 }
    let u := { lined .wrs 0 with inputs := [⟨false, true, 9⟩, ⟨false, true, 8⟩], adc := .done false 7 }
    (∃ t, step s = .next t ∧ s.adc.inFlight = false ∧ s.adcStart = false ∧ s.input.adcDone = false ∧
      (t.inputAt 0).adcDone = true) ∧
    (∃ t, step u = .next t ∧ u.adcStart = false ∧ u.input.adcDone = true ∧ t.input.adcDone = true ∧
      (t.inputAt 0).adcData ≠ (u.inputAt 0).adcData) ∧
    (lined .wrs 1).adc = .idle :=
  ⟨⟨_, step_of_exec rfl ((State.current_eq _).trans rfl) rfl, rfl, rfl, rfl, rfl⟩,
    ⟨_, step_of_exec rfl ((State.current_eq _).trans rfl) rfl, rfl, rfl, rfl, by decide⟩, rfl⟩

/-- `POR` in a legal and in an illegal state. -/
theorem witness_PorForcesResetState :
    { at' 0x3E with inputs := [⟨true, false, 0⟩] }.input.por = true ∧
    { at' 0xFF with inputs := [⟨true, false, 0⟩] }.input.por = true := ⟨rfl, rfl⟩

theorem witness_UnspecifiedRegistersNeverShow :
    (lined .rsta 1).current = .ok .rsta ∧
    SameButUnspecified (lined .rsta 1) { lined .rsta 1 with raw := Vector.replicate 7 9, bnd := Vector.replicate 5 1 } ∧
    ∃ t, RunsTo 1 (lined .rsta 1) t :=
  ⟨lined_current rfl, rfl, _, runsTo_one (step_of_exec rfl (lined_current rfl) rfl)⟩

/-- A state that meets the whole invariant in mid-cycle: SAMP 6 with its conversion in flight. -/
def midCycle : State :=
  { lined (.samp (bandBits 6)) 1 with adc := .busy false, azSeen := 7, port := #v[1, 3, 7, 63, 128, 192, 252] }

theorem midCycle_current : midCycle.current = .ok (.samp (bandBits 6)) := (State.current_eq _).trans rfl

theorem midCycle_lines : LinesOk midCycle := ⟨_, midCycle_current, rfl, rfl, rfl⟩

theorem midCycle_agents : AgentsOk midCycle := ⟨_, midCycle_current, by unfold StrobesSeen; rfl, rfl, rfl⟩

theorem midCycle_widths : WidthsOk midCycle := by unfold WidthsOk; decide

theorem midCycle_port : ∀ b : Band, ∃ k, k ≤ 6 ∧ midCycle.port[b] = pattern midCycle.cfg midCycle.cfg.bandCfg[b].family k := by
  have h : ∀ b : Band, ∃ k : Fin 7, midCycle.port[b] = pattern midCycle.cfg midCycle.cfg.bandCfg[b].family k.val := by decide
  intro b
  obtain ⟨k, hk⟩ := h b
  exact ⟨k.val, Nat.le_of_lt_succ k.isLt, hk⟩

theorem midCycle_inv : Inv midCycle :=
  ⟨by decide, midCycle_lines, ⟨_, midCycle_current, by decide⟩, midCycle_widths,
    ⟨_, midCycle_current, by simp [scaled], by simp [pushedBands], by simp [mappedBands], midCycle_port⟩, midCycle_agents⟩

theorem midCycle_step : ∃ t, step midCycle = .next t := ⟨_, step_of_exec rfl midCycle_current (exec_samp_wait rfl)⟩

theorem witness_ResetMeetsInvariant : fast.Valid := fast_valid

theorem witness_StepKeepsInvariant : Inv midCycle ∧ ∃ t, step midCycle = .next t := ⟨midCycle_inv, midCycle_step⟩

/-- A step, and a start on each of the two channels. -/
theorem witness_ChannelSelectorDiscipline :
    (LinesOk midCycle ∧ ∃ t, step midCycle = .next t) ∧
    (LinesOk (lined (.conv (bandBits 6)) 1) ∧ (lined (.conv (bandBits 6)) 1).adcStart = true) ∧
    (LinesOk (lined .convp 1) ∧ (lined .convp 1).adcStart = true) :=
  ⟨⟨midCycle_lines, midCycle_step⟩, ⟨lined_linesOk rfl, rfl⟩, lined_linesOk rfl, rfl⟩

theorem witness_RegistersKeepTheirWidths : wide.cfg.Valid ∧ WidthsOk wide ∧ ∃ t, step wide = .next t :=
  ⟨by decide, wide_widthsOk, _, step_of_exec rfl wide_current rfl⟩

theorem witness_BandIdentityIsKept : LinesOk midCycle ∧ AgentsOk midCycle ∧ ∃ t, step midCycle = .next t :=
  ⟨midCycle_lines, midCycle_agents, midCycle_step⟩

theorem witness_FifoHoldsLastFour : State.reset.hist[(6 : Band)] = ⟨0, 0, 0, 0⟩ := by decide

theorem witness_FilterConverges : wide.hist[(6 : Band)] = ⟨1023, 1023, 1023, 1023⟩ := by decide

theorem witness_AverageLaws : (0 ≤ 0 ∧ 1 ≤ 1 ∧ 2 ≤ 5 ∧ 3 ≤ 3 : Prop) := by decide

/-- A reading raised by 8, and by 7 across a multiple of 8. -/
theorem witness_BoundaryLaws :
    (∃ t, exec .scale { wide with potraw := 1015 } = .next t) ∧ wide.cfg.Valid ∧
    (∃ t, exec .scale { wide with potraw := 1015 + 8 } = .next t) ∧ ∃ t, exec .scale { wide with potraw := 1015 + 7 } = .next t :=
  ⟨⟨_, rfl⟩, by decide, ⟨_, rfl⟩, _, rfl⟩

theorem witness_BucketIsTheLadder : Ascending 50 #v[110, 120, 130, 140, 150] ∧ Ascending 109 #v[110, 111, 112, 113, 114] := by
  decide

theorem witness_BucketIsMonotone : (109 < 110 ∧ 100 ≤ 101 ∧ 0 ≤ 127 : Prop) := by decide

theorem witness_PatternBits : Params.default.Valid ∧ (0 ≤ 6 ∧ 6 ≤ 6 : Prop) := by decide

theorem witness_FamilyATable : fast.Valid ∧ (6 ≤ 6 : Prop) := by decide

/-- Bands 1 and 3, both Family A with floor 100, in states that differ elsewhere. -/
theorem witness_MapperHasNoMemory :
    wide.level[(1 : Band)] = { wide with outpat := Vector.replicate 7 0, pot := 3 }.level[(3 : Band)] ∧
    wide.cfg.bandCfg[(1 : Band)] = wide.cfg.bandCfg[(3 : Band)] ∧ (∃ t, exec (.map (bandBits 1)) wide = .next t) ∧
    ∃ t, exec (.map (bandBits 3)) { wide with outpat := Vector.replicate 7 0, pot := 3 } = .next t :=
  ⟨by decide, by decide, ⟨_, rfl⟩, _, rfl⟩

/-- The level at the floor exactly. -/
theorem witness_SilenceIsDark :
    let s := { lined (.map (bandBits 6)) 1 with level := Vector.replicate 7 100, bnd := boundaries 127 }
    s.cfg.Valid ∧ s.bnd = boundaries 127 ∧ s.level[(6 : Band)] ≤ s.cfg.bandCfg[(6 : Band)].floor := by
  decide

/-- A step at which a pin changes together with ADC_START, and one at which the buses change. -/
theorem witness_PinsChangeOneAtATime :
    (LinesOk (lined .selp 1) ∧ (lined .selp 1).input.por = false ∧ ∃ t, step (lined .selp 1) = .next t ∧
      t.adcStart ≠ (lined .selp 1).adcStart ∧ t.adcCh ≠ (lined .selp 1).adcCh) ∧
    ∃ t, step { lined .rend 1 with outpat := Vector.replicate 7 1 } = .next t ∧ t.port ≠ (lined .rend 1).port :=
  ⟨⟨lined_linesOk rfl, rfl, _, step_of_exec rfl (lined_current rfl) rfl, by decide, by decide⟩,
    _, step_of_exec rfl ((State.current_eq _).trans rfl) rfl, by decide⟩

/-- A cycle of the fast build in which every conversion is answered at once, with the number of the edge as its value. -/
def fastRun (n : Nat) : State :=
  { State.resetFor fast with inputs := (List.range n).map fun k => ⟨false, true, k⟩ }

/-- The answers of cycle `m` of `fastRun`. -/
def fastBands (m : Nat) : Vector Nat 7 := Vector.ofFn fun b => 66 * m + 4 + 6 * b.val + 3

theorem witness_ResetCycleMacro :
    (fastRun 66).cfg.Valid ∧ (fastRun 66).current = .ok .rsta ∧ (fastRun 66).rstl = false ∧
    NoPor (fastRun 66) (resetPeriods fast) :=
  ⟨fast_valid, (State.current_eq _).trans rfl, rfl, by decide⟩

/-- The read of band 6 with an answer in its second period. -/
theorem witness_BandReadMacro :
    let s := { lined (.stba (bandBits 6)) 0 with
      cfg := fast, inputs := [quiet, quiet, quiet, quiet, ⟨false, true, 9⟩, quiet, quiet] }
    s.cfg.Valid ∧ s.current = .ok (.stba (bandBits 6)) ∧ s.stbl = false ∧ NoPor s (bandPeriods s.cfg 2) ∧
      Answers s (s.cfg.nSt + 2) 2 9 :=
  ⟨fast_valid, (State.current_eq _).trans rfl, rfl, by decide, by decide⟩

theorem witness_RescaleMacro :
    let s := { lined .selp 0 with inputs := [quiet, quiet, quiet, ⟨false, true, 1023⟩, quiet, quiet] }
    s.current = .ok .selp ∧ s.chsel = false ∧ NoPor s (4 + 2) ∧ Answers s 2 2 1023 :=
  ⟨(State.current_eq _).trans rfl, rfl, by decide, by decide⟩

theorem fastRun_answers :
    CycleAnswers (fastRun 132) 0 (fun _ => 1) 1 (fastBands 0) 48 ∧
    CycleAnswers (fastRun 132) 66 (fun _ => 1) 1 (fastBands 1) 114 := by
  decide +kernel

theorem witness_ControlLoopComputesCycle :
    (fastRun 132).cfg.Valid ∧ (fastRun 132).current = .ok .rsta ∧
    CycleAnswers (fastRun 132) 0 (fun _ => 1) 1 (fastBands 0) 48 :=
  ⟨fast_valid, (State.current_eq _).trans rfl, fastRun_answers.1⟩

/-- Two cycles from reset. -/
theorem witness_RunFromResetFollowsCycles :
    fast.Valid ∧ ∀ m, m < 2 →
      CycleAnswers { State.resetFor fast with inputs := (fastRun 132).inputs, edge := 0 }
        (cycleOffset fast (fun _ _ => 1) (fun _ => 1) m) (fun _ => 1) 1 (fastBands m) (66 * m + 48) := by
  refine ⟨fast_valid, fun m hm => ?_⟩
  match m, hm with
  | 0, _ => exact fastRun_answers.1
  | 1, _ => exact fastRun_answers.2

theorem witness_PeriodCountsAreLeast : 1 ≤ 3 ∧ Params.LastsAtLeast 3 10 250001 ∧ ¬Params.LastsAtLeast 2 10 250001 := by decide

end Sys2Proof.Tests
end

section
/-! Family A of the pattern tables (R77): which bits of the bus a row sets, that a valid build's bus holds every row, and how
`map` renders a level of a Family A band. -/

namespace Sys2Proof.Machine

theorem pattern_a (p : Params) (k : Nat) : pattern p .a k = patA k := rfl

theorem testBit_patA (k j : Nat) : (patA k).testBit j = decide (j < k) := Nat.testBit_two_pow_sub_one k j

/-- Six ones fit the bus: R8 asks for `OUT_W ≥ 6`. -/
theorem patA_lt_two_pow_outW {p : Params} {k : Nat} (hp : p.Valid) (hk : k ≤ 6) : patA k < 2 ^ p.outW := by
  obtain ⟨-, hw, -⟩ := hp
  calc patA k < 2 ^ k := Nat.sub_one_lt_of_lt (Nat.two_pow_pos k)
    _ ≤ 2 ^ p.outW := Nat.pow_le_pow_right Nat.two_pos (hk.trans hw)

theorem mapLevel_familyA (p : Params) (level floor : Nat) (bnd : Vector Nat 5) :
    mapLevel p level bnd ⟨.a, floor⟩ = patA (bucket level floor bnd) := rfl

/-- With the potentiometer at 0 the five boundaries are 110, 120, 130, 140 and 150 (R106). -/
theorem bounds_zero : bounds 0 = #v[110, 120, 130, 140, 150] := rfl

end Sys2Proof.Machine

open Sys2Proof Sys2Proof.Machine

/-- Settles O50: Family A sets exactly the bits below the bucket's number, which a valid bus holds; the source's three levels
fall into the buckets 0, 3 and 6 of the boundaries 110 to 150. -/
theorem familyATable : Obligations.FamilyATable := by
  refine ⟨rfl, fun p k => ⟨pattern_a p k, rfl⟩, fun p k j hp hk => ⟨?width, ?bits⟩, fun p => ?examples⟩
  case width => exact patA_lt_two_pow_outW hp hk
  case bits => rw [pattern_a, testBit_patA, decide_eq_true_iff]
  case examples =>
    have low : bucket 100 100 (bounds 0) = 0 := by simp [bucket_eq, bounds_zero]
    have middle : bucket 125 100 (bounds 0) = 3 := by simp [bucket_eq, bounds_zero]
    have high : bucket 151 100 (bounds 0) = 6 := by simp [bucket_eq, bounds_zero]
    simp [mapLevel_familyA, low, middle, high, patA]
end

section
/-! What the word and the next SEQ of a micro-operation decode to, the line levels and the wait lengths in the form the
sequencer's statements use, and how long a micro-operation is current (40_sequencer.md R85 to R87): one period, or for the four
timer waits the whole countdown. -/

namespace Sys2Proof

/-- The PHASE and BAND codes of a well-formed micro-operation decode to it (R70, R71). -/
theorem decodeFields_codes {i : Instr} (h : i.wellFormed = true) :
    decodeFields (phaseCode i) (bandCode i) = .ok i := by
  cases i with
  | rsta | wrp | rstd | wrs | selp | convp | sampp | selb | scale | rend => rfl
  | stba b | wsa b | conv b | samp b | stbd b | wsd b | push b | map b => exact if_pos h

/-- `N_RP` is at least one period and at least 10 microseconds (R8). -/
theorem Params.Valid.resetPulse {p : Params} (h : p.Valid) : 1 ≤ p.nRp ∧ LastsAtLeast p.nRp 10 p.fClk := by
  obtain ⟨-, -, -, -, -, -, hRp, -⟩ := h
  exact hRp

/-- `N_RS` is at least one period and at least 80 microseconds (R8). -/
theorem Params.Valid.resetSettle {p : Params} (h : p.Valid) : 1 ≤ p.nRs ∧ LastsAtLeast p.nRs 80 p.fClk := by
  obtain ⟨-, -, -, -, -, -, -, hRs, -⟩ := h
  exact hRs

/-- `N_ST` is at least one period and at least 40 microseconds (R8). -/
theorem Params.Valid.strobePhase {p : Params} (h : p.Valid) : 1 ≤ p.nSt ∧ LastsAtLeast p.nSt 40 p.fClk := by
  obtain ⟨-, -, -, -, -, -, -, -, hSt, -⟩ := h
  exact hSt

end Sys2Proof

namespace Sys2Proof.Machine

/-- A PHASE number over BAND 0, plus a band, is the word of that PHASE and that band (R67, R69). -/
theorem append_zero_add_band (p : PhaseField) (c : Band) :
    (p ++ (0 : BandField)) + BitVec.ofNat 8 c.val = p ++ bandBits c := by
  revert p c; decide +kernel

/-- Decoding a banded word given as PHASE times 8 plus the band. -/
theorem decode_add_band (p : PhaseField) (c : Band) :
    decode ((p ++ (0 : BandField)) + BitVec.ofNat 8 c.val) = decodeFields p (bandBits c) := by
  rw [append_zero_add_band, decode_append]

/-- After `SEQ <- (P, b)` the micro-operation written is current. -/
theorem State.goto_current_of_wellFormed (s : State) {i : Instr} (h : i.wellFormed = true) :
    (s.goto i).current = .ok i :=
  (s.goto_current i).trans (decodeFields_codes h)

/-- `i` is a timer wait with successor `j`: its meaning is one period of `State.wait` towards `j`, another micro-operation
(R87). -/
structure IsWait (i j : Instr) : Prop where
  exec_eq    : ∀ s : State, exec i s = .next (s.wait j)
  wellFormed : j.wellFormed = true
  ne         : j ≠ i

variable {i j : Instr} {s : State}

theorem IsWait.exec_leaves (w : IsWait i j) (h : s.timer = 0) : exec i s = .next (s.goto j) := by
  rw [w.exec_eq, State.wait_zero j h]

theorem IsWait.exec_stays (w : IsWait i j) (h : s.timer ≠ 0) : exec i s = .next s.countDown := by
  rw [w.exec_eq, State.wait_pos j h]

theorem isWait_wrp : IsWait .wrp .rstd := ⟨fun _ => rfl, rfl, nofun⟩

theorem isWait_wrs : IsWait .wrs (.stba 0) := ⟨fun _ => rfl, rfl, nofun⟩

theorem isWait_wsa (c : Band) : IsWait (.wsa (bandBits c)) (.conv (bandBits c)) :=
  ⟨exec_wsa c, legal_bandBits c, nofun⟩

theorem isWait_wsd (c : Band) : IsWait (.wsd (bandBits c)) (nextBand c .stba .selp) where
  exec_eq := exec_wsd c
  wellFormed := by revert c; decide
  ne := by revert c; decide

end Sys2Proof.Machine

namespace Sys2Proof.Safety

open Sys2Proof.Machine

variable {i j : Instr} {n : Nat} {s t u : State}

/-- The levels of the three lines under the line invariant when `i` is current (R98, R99). -/
theorem LinesOk.levels (h : LinesOk s) (hi : s.current = .ok i) :
    s.rstl = resetAsserted i ∧ s.stbl = strobeAsserted i ∧ s.chsel = potSelected i := by
  obtain ⟨k, hk, levels⟩ := h
  obtain rfl : k = i := Except.ok.inj (hk.symm.trans hi)
  exact levels

theorem LinesOk.rstl_eq (h : LinesOk s) (hi : s.current = .ok i) : s.rstl = resetAsserted i :=
  (h.levels hi).left

theorem LinesOk.stbl_eq (h : LinesOk s) (hi : s.current = .ok i) : s.stbl = strobeAsserted i :=
  (h.levels hi).right.left

theorem lastsExactly_zero (hj : s.current = .ok j) (hne : j ≠ i) : LastsExactly i 0 s :=
  ⟨nofun, s, j, runsTo_zero s, hj, hne⟩

/-- One more period of `i` before `n` periods of it. -/
theorem LastsExactly.cons (hi : s.current = .ok i) (h : step s = .next t) (ht : LastsExactly i n t) :
    LastsExactly i (n + 1) s := by
  obtain ⟨stays, u, j, hu, hj, hne⟩ := ht
  refine ⟨fun k hk => ?_, u, j, runsTo_succ h hu, hj, hne⟩
  cases k with
  | zero => exact ⟨s, runsTo_zero s, hi⟩
  | succ k =>
    obtain ⟨v, hv, hvi⟩ := stays k (Nat.lt_of_succ_lt_succ hk)
    exact ⟨v, runsTo_succ h hv, hvi⟩

/-- A micro-operation that goes to another one lasts one period. -/
theorem lastsExactly_one_of_exec (hp : s.input.por = false) (hi : s.current = .ok i) (he : exec i s = .next (u.goto j))
    (hj : j.wellFormed = true) (hne : j ≠ i) : LastsExactly i 1 s :=
  have hu : (s.closePeriod (u.goto j)).current = .ok j :=
    (State.closePeriod_current _ _).trans (u.goto_current_of_wellFormed hj)
  .cons hi (step_of_exec hp hi he) (lastsExactly_zero hu hne)

/-- A wait that finds TIMER at `n` lasts `n + 1` periods (R87). -/
theorem lastsExactly_wait (w : IsWait i j) (hi : s.current = .ok i) (ht : s.timer = n) (hp : NoPor s (n + 1)) :
    LastsExactly i (n + 1) s := by
  induction n generalizing s with
  | zero => exact lastsExactly_one_of_exec (hp 0 Nat.one_pos) hi (w.exec_leaves ht) w.wellFormed w.ne
  | succ n ih =>
    have hs : step s = .next (s.closePeriod s.countDown) :=
      step_of_exec (hp 0 (Nat.succ_pos _)) hi (w.exec_stays (by omega))
    refine .cons hi hs (ih ?current ?timer ?noPor)
    case current => simpa using hi
    case timer => simp [ht]
    case noPor =>
      intro k hk
      rw [State.closePeriod_inputAt]
      exact hp (k + 1) (Nat.succ_lt_succ hk)

/-- A wait of `n` periods, loaded with `n - 1`, lasts `n` periods (R87). -/
theorem lastsExactly_wait_of_loaded (w : IsWait i j) (hn : 1 ≤ n) (hi : s.current = .ok i) (ht : s.timer = n - 1)
    (hp : NoPor s n) : LastsExactly i n s := by
  obtain ⟨m, rfl⟩ := Nat.exists_eq_add_of_le' hn
  exact lastsExactly_wait w hi ht hp

end Sys2Proof.Safety

end

section
/-! The waits and the two line releases of the synchronizer: WRP, RSTD, WRS, WSA, STBD and WSD (40_sequencer.md R89 to R91, R93,
R96, R97). -/

open Sys2Proof Sys2Proof.Machine Sys2Proof.Safety

/-- Settles O10: WRP is a timer wait towards RSTD, and `N_RP` periods of a valid build are 10 microseconds or more. -/
theorem wrpWaitsResetPulse : Obligations.WrpWaitsResetPulse := by
  refine ⟨rfl, fun s h => isWait_wrp.exec_leaves h, fun s h => isWait_wrp.exec_stays h,
    fun s hv hi ht hp => ?lasts, fun s hl hi => hl.rstl_eq hi⟩
  obtain ⟨hn, htime⟩ := hv.resetPulse
  exact ⟨lastsExactly_wait_of_loaded isWait_wrp hn hi ht hp, htime⟩

/-- Settles O11: RSTD is one period on the way to WRS, and the pin level of the released reset line is the other one for either
polarity. -/
theorem rstdDeassertsResetLine : Obligations.RstdDeassertsResetLine := by
  refine ⟨rfl, fun s => rfl, fun s hi hp => lastsExactly_one_of_exec hp hi rfl rfl nofun, fun s t level h => ?pin⟩
  cases h
  rfl

/-- Settles O12: WRS is a timer wait towards STBA 0, and `N_RS` periods of a valid build are 80 microseconds or more. -/
theorem wrsWaitsResetSettle : Obligations.WrsWaitsResetSettle := by
  refine ⟨rfl, fun s h => isWait_wrs.exec_leaves h, fun s h => isWait_wrs.exec_stays h,
    fun s hv hi ht hp => ?lasts, fun s hl hi => ⟨hl.rstl_eq hi, hl.stbl_eq hi⟩⟩
  obtain ⟨hn, htime⟩ := hv.resetSettle
  exact ⟨lastsExactly_wait_of_loaded isWait_wrs hn hi ht hp, htime⟩

/-- Settles O14: WSA b is a timer wait towards CONV b, and `N_ST` periods of a valid build are 40 microseconds or more. -/
theorem wsaWaitsWithStrobeAsserted : Obligations.WsaWaitsWithStrobeAsserted := by
  intro b
  have w := isWait_wsa b
  refine ⟨(decode_add_band 5 b).trans (decodeBanded_bandBits b .wsa), fun s h => w.exec_leaves h,
    fun s h => w.exec_stays h, fun s hv hi ht hp => ?lasts, fun s hl hi => hl.stbl_eq hi⟩
  obtain ⟨hn, htime⟩ := hv.strobePhase
  exact ⟨lastsExactly_wait_of_loaded w hn hi ht hp, htime⟩

/-- Settles O17: STBD b is one period on the way to WSD b, and the active-low strobe pin is then at level 1. -/
theorem stbdDeassertsStrobe : Obligations.StbdDeassertsStrobe := by
  intro b
  refine ⟨(decode_add_band 8 b).trans (decodeBanded_bandBits b .stbd), exec_stbd b,
    fun s hi hp => lastsExactly_one_of_exec hp hi (exec_stbd b s) (legal_bandBits b) nofun, fun s t h => ?pin⟩
  rw [exec_stbd] at h
  cases h
  rfl

/-- Settles O18: WSD b is a timer wait towards STBA b+1 below band 6 and towards SELP at band 6, and `N_ST` periods of a valid
build are 40 microseconds or more. -/
theorem wsdWaitsThenNextBand : Obligations.WsdWaitsThenNextBand := by
  intro b
  have w := isWait_wsd b
  refine ⟨(decode_add_band 9 b).trans (decodeBanded_bandBits b .wsd), fun s h => w.exec_stays h,
    fun s h hb => ?next, fun s h hb => ?leave, fun s hv hi ht hp => ?lasts, fun s hl hi => hl.stbl_eq hi⟩
  case next =>
    rw [w.exec_leaves h, nextBand_lt hb]
    rfl
  case leave =>
    rw [w.exec_leaves h, nextBand_six hb]
    rfl
  case lasts =>
    obtain ⟨hn, htime⟩ := hv.strobePhase
    exact ⟨lastsExactly_wait_of_loaded w hn hi ht hp, htime⟩
end

section
/-! The threshold scaler's one-period micro-operations SELP, SELB and SCALE (41_scaler.md R102, R105, R106): who sets the channel
selector, what reaches SCALE, and that the boundaries fit their width. -/

namespace Sys2Proof

/-- A reading of `SAMPLE_W` bits keeps `POT_W` bits after the shift by 3 (R8, R106). -/
theorem Params.Valid.div_eight_lt {p : Params} (h : p.Valid) {r : Nat} (hr : r < 2 ^ p.sampleW) :
    r / 8 < 2 ^ (p.sampleW - 3) := by
  obtain ⟨hw, -⟩ := h
  apply Nat.div_lt_of_lt_mul
  calc r < 2 ^ p.sampleW := hr
    _ = 2 ^ (3 + (p.sampleW - 3)) := by congr 1; omega
    _ = 8 * 2 ^ (p.sampleW - 3) := Nat.pow_add 2 3 _

/-- `BND_W` has one bit more than both `POT_W` and the 8 bits of the offset 150, so their sum fits (R8, R106). -/
theorem Params.offset_add_lt_two_pow_bndW {p : Params} {x : Nat} (hx : x < 2 ^ (p.sampleW - 3)) : 150 + x < 2 ^ p.bndW := by
  have hpot : 2 ^ (p.sampleW - 3) ≤ 2 ^ max (p.sampleW - 3) 8 := Nat.pow_le_pow_right Nat.two_pos (le_max_left _ _)
  have hoffset : 2 ^ 8 ≤ 2 ^ max (p.sampleW - 3) 8 := Nat.pow_le_pow_right Nat.two_pos (le_max_right _ _)
  rw [bndW, Nat.pow_succ]
  omega

end Sys2Proof

namespace Sys2Proof.Machine

variable {i : Instr} {s u : State}

/-- SELP is the only micro-operation that takes CHSEL from 0 to 1 (R31, R105). -/
theorem Effect.selp_of_chsel_rises {j : Instr} (e : Effect s i j u) (hs : s.chsel = false) (hu : u.chsel = true) :
    i = .selp := by
  cases e
  case selp => rfl
  all_goals simp [hs] at hu

/-- SCALE follows SELB only (R86, R105). -/
theorem Effect.selb_of_scale (e : Effect s i .scale u) : i = .selb := by
  cases e
  rfl

/-- The five boundaries written out (R106). -/
theorem boundaries_eq (p : Nat) : boundaries p = #v[110 + p, 120 + p, 130 + p, 140 + p, 150 + p] := rfl

/-- SCALE in the spec's arithmetic: an eighth of the reading, and the boundaries raised by it (R106). -/
theorem exec_scale (s : State) : exec .scale s =
    .next ((s.setPotBnd (s.potraw / 8) #v[110 + s.potraw / 8, 120 + s.potraw / 8, 130 + s.potraw / 8, 140 + s.potraw / 8,
      150 + s.potraw / 8]).goto (.push 0)) := by
  rw [← boundaries_eq, ← scalePot_eq]
  rfl

end Sys2Proof.Machine

namespace Sys2Proof.Safety

open Sys2Proof.Machine

theorem LinesOk.chsel_eq {i : Instr} {s : State} (h : LinesOk s) (hi : s.current = .ok i) : s.chsel = potSelected i :=
  (h.levels hi).right.right

end Sys2Proof.Safety

open Sys2Proof Sys2Proof.Machine Sys2Proof.Safety

/-- Settles O19: SELP is one period on the way to CONVP, and the pin ADC_CH follows the selector it sets. -/
theorem selpSelectsPotentiometer : Obligations.SelpSelectsPotentiometer := by
  refine ⟨rfl, fun s => rfl, fun s hi hp => lastsExactly_one_of_exec hp hi rfl rfl nofun, fun s t h => ?pin,
    fun s hl hi => hl.chsel_eq hi⟩
  cases h
  rfl

/-- Settles O22: SELB is one period on the way to SCALE; of all effects of a micro-operation only SELP's raises CHSEL, and only
SELB's leads to SCALE. -/
theorem selbRestoresBandChannel : Obligations.SelbRestoresBandChannel := by
  refine ⟨rfl, fun s => rfl, fun s hi hp => lastsExactly_one_of_exec hp hi rfl rfl nofun, fun s t h => ?pin,
    fun i s t h hs ht => ?setter, fun s t hp h ht => ?reached⟩
  case pin =>
    cases h
    rfl
  case setter =>
    obtain ⟨j, e⟩ := exec_effect h
    exact e.selp_of_chsel_rises hs ht
  case reached =>
    obtain ⟨hpor, -⟩ | ⟨-, i, j, u, hi, e, -, hj⟩ := step_effect h
    · exact absurd (hp.symm.trans hpor) Bool.false_ne_true
    · obtain rfl : j = .scale := Except.ok.inj (hj.symm.trans ht)
      rw [hi, e.selb_of_scale]

/-- Settles O23: SCALE is one period on the way to PUSH 0; an eighth of a `SAMPLE_W`-bit reading has three bits fewer, which
leaves room for the offsets in the boundaries' width. -/
theorem scaleComputesBoundaries : Obligations.ScaleComputesBoundaries := by
  refine ⟨rfl, exec_scale, fun s hi hp => lastsExactly_one_of_exec hp hi (exec_scale s) rfl nofun, fun s hv hr => ?widths⟩
  have hpot := hv.div_eight_lt hr
  exact ⟨Nat.le_sub_one_of_lt hpot, Params.offset_add_lt_two_pow_bndW hpot⟩
end

section
/-! PUSH, the moving-average filter (42_filter.md R110): its meaning in the spec's arithmetic, and that the sum and the mean of
four samples of `SAMPLE_W` bits fit `SUM_W` and `SAMPLE_W` bits. -/

namespace Sys2Proof.Machine

/-- Four samples of `w` bits sum to `w + 2` bits (R114). -/
theorem Hist.sum_lt_two_pow {h : Hist} {w : Nat} (h0 : h.h0 < 2 ^ w) (h1 : h.h1 < 2 ^ w) (h2 : h.h2 < 2 ^ w)
    (h3 : h.h3 < 2 ^ w) : h.sum < 2 ^ (w + 2) := by
  rw [Hist.sum, Nat.pow_add]
  omega

/-- A quarter of a sum of `w + 2` bits has `w` bits (R111). -/
theorem Hist.avg_lt_two_pow {h : Hist} {w : Nat} (hs : h.sum < 2 ^ (w + 2)) : h.avg < 2 ^ w := by
  rw [Nat.pow_add, Nat.mul_comm] at hs
  rw [Hist.avg_eq]
  exact Nat.div_lt_of_lt_mul hs

/-- PUSH in the spec's arithmetic: the window of the three newest samples and `RAW[b]`, and a quarter of its sum (R110). -/
theorem exec_push_quarter (c : Band) (s : State) : exec (.push (bandBits c)) s =
    .next ((s.setHistLevel c ⟨s.hist[c].h1, s.hist[c].h2, s.hist[c].h3, s.raw[c]⟩
      ((s.hist[c].h1 + s.hist[c].h2 + s.hist[c].h3 + s.raw[c]) / 4)).goto (.map (bandBits c))) := by
  rw [exec_push, Hist.avg_eq]
  rfl

end Sys2Proof.Machine

namespace Sys2Proof.Safety

open Sys2Proof.Machine

/-- The window PUSH leaves sums to `SUM_W` bits (R8, R110). -/
theorem WidthsOk.push_sum_lt {s : State} (hw : WidthsOk s) (c : Band) :
    (s.hist[c].push s.raw[c]).sum < 2 ^ s.cfg.sumW := by
  obtain ⟨-, hraw, -, -, -, hhist, -⟩ := hw
  obtain ⟨-, h1, h2, h3⟩ := hhist c
  exact Hist.sum_lt_two_pow h1 h2 h3 (hraw c)

/-- The level PUSH leaves has `SAMPLE_W` bits (R110). -/
theorem WidthsOk.push_avg_lt {s : State} (hw : WidthsOk s) (c : Band) :
    (s.hist[c].push s.raw[c]).avg < 2 ^ s.cfg.sampleW :=
  Hist.avg_lt_two_pow (hw.push_sum_lt c)

end Sys2Proof.Safety

open Sys2Proof Sys2Proof.Machine Sys2Proof.Safety

/-- Settles O24: PUSH b is one period on the way to MAP b and leaves the shifted window and a quarter of its sum, and both the
sum and the quarter fit their widths. -/
theorem pushShiftsAndAverages : Obligations.PushShiftsAndAverages := by
  intro b
  refine ⟨(decode_add_band 15 b).trans (decodeBanded_bandBits b .push), exec_push_quarter b,
    fun s hi hp => lastsExactly_one_of_exec hp hi (exec_push b s) (legal_bandBits b) nofun, fun s hw => ⟨?sum, ?level⟩⟩
  case sum => exact hw.push_sum_lt b
  case level =>
    have havg := hw.push_avg_lt b
    rw [Hist.avg_eq] at havg
    exact havg
end

section
/-! The comparator tree and MAP (43_mapper.md R117, R118, R127): what each comparator compares, that the pattern MAP leaves
depends on nothing but the mapper's inputs, and where the level and the boundaries it reads come from. -/

namespace Sys2Proof.Machine

theorem comparators_zero (level floor : Nat) (bnd : Vector Nat 5) :
    (comparators level floor bnd)[0] = decide (level > floor) := rfl

/-- Comparator `j + 1` stands against boundary `j` (R118). -/
theorem comparators_succ (level floor : Nat) (bnd : Vector Nat 5) (j : Fin 5) :
    (comparators level floor bnd)[j.val + 1] = decide (level > bnd[j]) := by
  match j with
  | 0 | 1 | 2 | 3 | 4 => rfl

/-- Of all the parameters `map` reads `B_ANCHOR` alone beside the band's own entry (R78, R126). -/
theorem mapLevel_congr_bAnchor {p p' : Params} (h : p.bAnchor = p'.bAnchor) (level : Nat) (bnd : Vector Nat 5)
    (c : BandCfg) : mapLevel p level bnd c = mapLevel p' level bnd c := by
  unfold mapLevel
  cases c.family with
  | a => rfl
  | b => exact congrArg (patB · _) h

/-- What MAP b leaves in `OUTPAT[b]` (R127). -/
theorem outpat_of_exec_map {b : Band} {s t : State} (h : exec (.map (bandBits b)) s = .next t) :
    t.outpat[b] = mapLevel s.cfg s.level[b] s.bnd s.cfg.bandCfg[b] := by
  rw [exec_map] at h
  cases h
  simp

/-- Whichever way MAP leaves, the micro-operation it goes to is well formed. -/
theorem nextBand_push_rend_wellFormed (b : Band) : (nextBand b .push .rend).wellFormed = true := by
  revert b; decide

theorem nextBand_push_rend_ne_map (b : Band) : nextBand b .push .rend ≠ .map (bandBits b) := by
  revert b; decide

end Sys2Proof.Machine

namespace Sys2Proof.Safety

open Sys2Proof.Machine

/-- The data-flow invariant at the micro-operation known to be current. -/
theorem DataOk.dataFlow {i : Instr} {s : State} (h : DataOk s) (hi : s.current = .ok i) : DataFlow s i := by
  obtain ⟨k, hk, flow⟩ := h
  obtain rfl : k = i := Except.ok.inj (hk.symm.trans hi)
  exact flow

/-- When MAP b is current, PUSH b has already run (R86). -/
theorem lt_pushedBands_map (b : Band) : b.val < pushedBands (.map (bandBits b)) := by
  simp [pushedBands]

/-- MAP b reads the level PUSH b left and the boundaries SCALE left (R131). -/
theorem DataFlow.map_inputs {b : Band} {s : State} (h : DataFlow s (.map (bandBits b))) :
    s.hist[b].h3 = s.raw[b] ∧ s.level[b] = s.hist[b].avg ∧ s.bnd = boundaries (scalePot s.potraw) := by
  obtain ⟨afterScale, afterPush, -, -⟩ := h
  obtain ⟨hpot, hbnd⟩ := afterScale rfl
  obtain ⟨hslot, hlevel⟩ := afterPush b (lt_pushedBands_map b)
  exact ⟨hslot, hlevel, hpot ▸ hbnd⟩

end Sys2Proof.Safety

open Sys2Proof Sys2Proof.Machine Sys2Proof.Safety

/-- Settles O51: MAP b leaves `map` of the band's level, the boundaries and the band's entry, and of the other parameters `map`
reads `B_ANCHOR` alone. -/
theorem mapperHasNoMemory : Obligations.MapperHasNoMemory := by
  intro b b' s s' t t' hlevel hbnd hcfg hanchor h h'
  calc t.outpat[b]
      = mapLevel s.cfg s.level[b] s.bnd s.cfg.bandCfg[b] := outpat_of_exec_map h
    _ = mapLevel s.cfg s'.level[b'] s'.bnd s'.cfg.bandCfg[b'] := by rw [hlevel, hbnd, hcfg]
    _ = mapLevel s'.cfg s'.level[b'] s'.bnd s'.cfg.bandCfg[b'] := mapLevel_congr_bAnchor hanchor ..
    _ = t'.outpat[b'] := (outpat_of_exec_map h').symm

/-- Settles O25: MAP b is one period on the way to PUSH b+1 or, at band 6, to REND, and when it is current the data-flow
invariant says where its level and its boundaries come from; the source's scenario is evaluated. -/
theorem mapWritesPattern : Obligations.MapWritesPattern := by
  refine ⟨fun b => ⟨(decode_add_band 16 b).trans (decodeBanded_bandBits b .map), fun s hb => ?next, fun s hb => ?leave,
    fun s hi hp => ?lasts, fun s hd hi => (hd.dataFlow hi).map_inputs⟩, rfl, rfl, rfl⟩
  case next =>
    rw [exec_map, nextBand_lt hb]
    rfl
  case leave =>
    rw [exec_map, nextBand_six hb]
    rfl
  case lasts =>
    exact lastsExactly_one_of_exec hp hi (exec_map b s) (nextBand_push_rend_wellFormed b) (nextBand_push_rend_ne_map b)

/-- Settles O47: each comparator is a decided strict comparison, so its output is 0 exactly when the comparison fails. -/
theorem comparatorsAreStrict : Obligations.ComparatorsAreStrict := by
  intro level floor bnd
  refine ⟨?floorOn, fun j => ?boundaryOn, ?floorOff, fun j => ?boundaryOff⟩
  case floorOn => rw [comparators_zero, decide_eq_true_iff]
  case boundaryOn => rw [comparators_succ, decide_eq_true_iff]
  case floorOff => rw [comparators_zero, decide_eq_false_iff_not, not_lt]
  case boundaryOff => rw [comparators_succ, decide_eq_false_iff_not, not_lt]
end

section
/-! The decoder and the encoder against each other (30_encoding.md R67 to R72), and the wired program as a path through the
next-SEQ table (R84). -/

namespace Sys2Proof

/-- The decoder gives back every micro-operation whose operand is legal. -/
theorem decode_encode {i : Instr} (h : i.wellFormed = true) : decode (encode i) = .ok i :=
  (decode_append _ _).trans (decodeFields_codes h)

/-- A word that decodes is the word of what it decodes to: its two fields are the codes of R70. -/
theorem encode_of_decode {w : SeqWord} {i : Instr} (h : decode w = .ok i) : encode i = w := by
  obtain ⟨hp, hb⟩ := fields_of_decodeFields h
  rw [encode, ← hp, ← hb, append_fields]

/-- The decoder gives well-formed micro-operations only: a banded row has checked its operand (R71). -/
theorem wellFormed_of_decodeFields {p : PhaseField} {b : BandField} {i : Instr} (h : decodeFields p b = .ok i) :
    i.wellFormed = true := by
  unfold decodeFields at h
  split at h
  case h_1 | h_2 | h_3 | h_4 | h_11 | h_12 | h_13 | h_14 | h_15 | h_18 => obtain ⟨-, rfl⟩ := decodePlain_ok h; rfl
  case h_5 | h_6 | h_7 | h_8 | h_9 | h_10 | h_16 | h_17 => obtain ⟨hb, rfl⟩ := decodeBanded_ok h; exact hb
  case h_19 => cases h

/-- The word as a number (R67). -/
theorem encode_toNat (i : Instr) : (encode i).toNat = (phaseCode i).toNat * 8 + (bandCode i).toNat := by
  rw [encode, BitVec.toNat_append, ← Nat.shiftLeft_add_eq_or_of_lt (bandCode i).isLt, Nat.shiftLeft_eq]

/-- The 256 words, row by row of the map (R70, R71). -/
theorem legalWord_iff (w : SeqWord) : legalWord w = true ↔
    (phaseOfWord w).toNat ≤ 17 ∧
    ((phaseOfWord w).toNat ∈ [4, 5, 6, 7, 8, 9, 15, 16] → (bandOfWord w).toNat ≤ 6) ∧
    ((phaseOfWord w).toNat ∉ [4, 5, 6, 7, 8, 9, 15, 16] → (bandOfWord w).toNat = 0) := by
  revert w; decide +kernel

end Sys2Proof

open Sys2Proof Sys2Proof.Machine Sys2Proof.Safety

/-- Settles O5: the two fields of the word are the codes of the micro-operation, and every row of the map reads them back. -/
theorem decodeOfEncodeIsIdentity : Obligations.DecodeOfEncodeIsIdentity :=
  fun _ h => decode_encode h

/-- Settles O6: the fields of a word that decodes are its micro-operation's codes, whose operand the decoder has checked. -/
theorem encodeOfDecodeIsIdentity : Obligations.EncodeOfDecodeIsIdentity := by
  intro w i h
  have hw : encode i = w := encode_of_decode h
  exact ⟨hw, wellFormed_of_decodeFields h, hw ▸ encode_toNat i⟩

/-- Settles O3: the map checked on all 256 words, and the four classes of words counted. -/
theorem legalWordsCharacterised : Obligations.LegalWordsCharacterised :=
  ⟨legalWord_iff, by decide +kernel, by decide +kernel, by decide +kernel, by decide +kernel⟩

/-- Settles O4: each word is evaluated by the decoder. -/
theorem specWordsDecode : Obligations.SpecWordsDecode :=
  ⟨rfl, rfl, rfl, rfl, rfl, rfl, rfl, rfl, rfl, rfl, rfl, rfl, rfl⟩

/-- Settles O7: the expansion of the program and its image under the successor table are evaluated. -/
theorem wiredProgramOrder : Obligations.WiredProgramOrder :=
  ⟨by decide, by decide⟩
end

section
/-! The step rule (40_sequencer.md R85, R86): a legal SEQ always answers, where the next SEQ comes from, and who writes which
register (10_state.md R22 to R31). -/

namespace Sys2Proof.Machine

variable {i j : Instr} {s t u : State}

/-- Of the eight BAND values only 7 is no index (R25). -/
theorem eq_seven_of_not_legal {b : BandField} (h : BandField.legal b = false) : b = 7 := by
  revert b; decide

/-- The reserved operand 7 is refused (R52, D33). -/
theorem exec_refuses_band_seven (h : i.wellFormed = false) : exec i s = .refused .illegalBand := by
  cases i with
  | rsta | wrp | rstd | wrs | selp | convp | sampp | selb | scale | rend => cases h
  | stba b | wsa b | conv b | samp b | stbd b | wsd b | push b | map b => cases eq_seven_of_not_legal h; rfl

/-- A well-formed micro-operation answers a next state in every state (R85). -/
theorem exec_answers (h : i.wellFormed = true) (s : State) : ∃ t, exec i s = .next t := by
  cases i with
  | rsta | wrp | rstd | wrs | selp | convp | sampp | selb | scale | rend => exact ⟨_, rfl⟩
  | stba b | wsa b | conv b | samp b | stbd b | wsd b | push b | map b =>
    obtain ⟨c, rfl⟩ | rfl := bandField_cases b
    · exact ⟨_, withBand_bandBits c _⟩
    · cases h

theorem State.wellFormed_of_current (h : s.current = .ok i) : i.wellFormed = true :=
  wellFormed_of_decodeFields (s.current_eq.symm.trans h)

/-- PROGRESS. Without `POR` a legal SEQ answers with one of its micro-operation's effects (R85). -/
theorem step_answers (hp : s.input.por = false) (hi : s.current = .ok i) :
    ∃ j u, Effect s i j u ∧ step s = .next (s.closePeriod u) ∧ (s.closePeriod u).current = .ok j := by
  obtain ⟨u, hu⟩ := exec_answers (State.wellFormed_of_current hi) s
  obtain ⟨j, e⟩ := exec_effect hu
  exact ⟨j, u, e, step_of_exec hp hi hu, (s.closePeriod_current u).trans (e.current hi)⟩

/-- A sampled `POR` overrides whatever SEQ holds (R161). -/
theorem step_of_por (hp : s.input.por = true) : step s = .next (s.closePeriod s.powerOnReset) := if_pos hp

/-- Adding 1 to a BAND field below 6 is the next band. -/
theorem bandBits_add_one {c : Band} (hc : c.val + 1 < 7) : bandBits c + 1 = bandBits ⟨c.val + 1, hc⟩ := by
  revert c; decide

theorem bandBits_inj {b c : Band} : bandBits b = bandBits c ↔ b = c := by
  revert b c; decide

/-- The micro-operation an effect leads to is the table's (R86). -/
theorem Effect.eq_successor (e : Effect s i j u) : j = Safety.successor (s.timer == 0) s.input.adcDone i := by
  cases e with
  | rsta | rstd | selp | convp | selb | scale | stba | conv | stbd | push | mapLeave | rend => rfl
  | wrpStay h | wrpLeave h | wrsStay h | wsaStay c h | wsaLeave c h | wsdStay c h | sampStay c h | sampLeave c h
  | samppStay h | samppLeave h => simp [Safety.successor, h]
  | wrsLeave h | wsdLeave h => simp only [Safety.successor, h]; rfl
  | wsdNext c h hc => simpa [Safety.successor, h, Nat.lt_of_succ_lt_succ hc] using (bandBits_add_one hc).symm
  | mapNext c hc => simpa [Safety.successor, Nat.lt_of_succ_lt_succ hc] using (bandBits_add_one hc).symm

/-- An element of an array changes only when it is the one written. -/
theorem eq_of_set_ne {α : Type} {v : Vector α 7} {b c : Band} {x : α} (h : (v.set c x)[b] ≠ v[b]) : c = b := by
  by_contra hc
  exact h (Vector.getElem_set_ne _ _ fun e => hc (Fin.ext e))

theorem Effect.raw_writer (e : Effect s i j u) {b : Band} (h : u.raw[b] ≠ s.raw[b]) : i = .samp (bandBits b) := by
  cases e
  case sampLeave c hd => exact congrArg (Instr.samp <| bandBits ·) (eq_of_set_ne h)
  all_goals exact absurd rfl h

theorem Effect.potraw_writer (e : Effect s i j u) (h : u.potraw ≠ s.potraw) : i = .sampp := by
  cases e
  case samppLeave hd => rfl
  all_goals exact absurd rfl h

theorem Effect.potBnd_writer (e : Effect s i j u) (h : u.pot ≠ s.pot ∨ u.bnd ≠ s.bnd) : i = .scale := by
  cases e
  case scale => rfl
  all_goals exact h.elim (absurd rfl) (absurd rfl)

theorem Effect.histLevel_writer (e : Effect s i j u) {b : Band} (h : u.hist[b] ≠ s.hist[b] ∨ u.level[b] ≠ s.level[b]) :
    i = .push (bandBits b) := by
  cases e
  case push c => exact congrArg (Instr.push <| bandBits ·) (h.elim eq_of_set_ne eq_of_set_ne)
  all_goals exact h.elim (absurd rfl) (absurd rfl)

theorem Effect.outpat_writer (e : Effect s i j u) {b : Band} (h : u.outpat[b] ≠ s.outpat[b]) : i = .map (bandBits b) := by
  cases e
  case mapNext c hc => exact congrArg (Instr.map <| bandBits ·) (eq_of_set_ne h)
  case mapLeave => exact congrArg (Instr.map <| bandBits ·) (eq_of_set_ne h)
  all_goals exact absurd rfl h

theorem Effect.port_writer (e : Effect s i j u) (h : u.port ≠ s.port) : i = .rend := by
  cases e
  case rend => rfl
  all_goals exact absurd rfl h

theorem Effect.rstl_writer (e : Effect s i j u) (h : u.rstl ≠ s.rstl) : i = .rsta ∨ i = .rstd := by
  cases e
  case rsta => exact .inl rfl
  case rstd => exact .inr rfl
  all_goals exact absurd rfl h

theorem Effect.stbl_writer (e : Effect s i j u) (h : u.stbl ≠ s.stbl) :
    ∃ b : Band, i = .stba (bandBits b) ∨ i = .stbd (bandBits b) := by
  cases e
  case stba c => exact ⟨c, .inl rfl⟩
  case stbd c => exact ⟨c, .inr rfl⟩
  all_goals exact absurd rfl h

theorem Effect.chsel_writer (e : Effect s i j u) (h : u.chsel ≠ s.chsel) : i = .selp ∨ i = .selb := by
  cases e
  case selp => exact .inl rfl
  case selb => exact .inr rfl
  all_goals exact absurd rfl h

/-- TIMER is written by the loaders and by the waits that count down (R26). -/
theorem Effect.timer_writer (e : Effect s i j u) (h : u.timer ≠ s.timer) : i ∈ [.rsta, .wrp, .rstd, .wrs] ∨
    ∃ b : Band, i ∈ [.stba (bandBits b), .wsa (bandBits b), .stbd (bandBits b), .wsd (bandBits b)] := by
  cases e
  case rsta | wrpStay | rstd | wrsStay => exact .inl (by simp)
  case stba c | wsaStay c _ | stbd c | wsdStay c _ => exact .inr ⟨c, by simp⟩
  all_goals exact absurd rfl h

/-- When `i` is current BAND is its operand, so only the two loops over the bands change it (R25). -/
theorem Effect.band_writer (e : Effect s i j u) (hi : s.current = .ok i) (h : u.band ≠ s.band) :
    ∃ b : Band, (i = .wsd (bandBits b) ∨ i = .map (bandBits b)) ∧
      ((b.val < 6 ∧ u.band.toNat = b.val + 1) ∨ (b.val = 6 ∧ u.band = 0)) := by
  obtain ⟨-, hb⟩ := State.fields_of_current hi
  rw [hb] at h
  cases e
  case wsdNext c _ hc => exact ⟨c, .inl rfl, .inl ⟨Nat.lt_of_succ_lt_succ hc, bandBits_toNat ⟨c.val + 1, hc⟩⟩⟩
  case mapNext c hc => exact ⟨c, .inr rfl, .inl ⟨Nat.lt_of_succ_lt_succ hc, bandBits_toNat ⟨c.val + 1, hc⟩⟩⟩
  case wsdLeave => exact ⟨6, .inl rfl, .inr ⟨rfl, rfl⟩⟩
  case mapLeave => exact ⟨6, .inr rfl, .inr ⟨rfl, rfl⟩⟩
  case wrpStay | wrsStay | wsaStay | wsdStay | sampStay | samppStay => exact absurd hb h
  all_goals exact absurd rfl h

end Sys2Proof.Machine

open Sys2Proof Sys2Proof.Machine Sys2Proof.Safety

/-- Settles O1: a legal SEQ answers, and the edge adds what `closePeriod` says. -/
theorem stepRunsCurrentMicroOperation : Obligations.StepRunsCurrentMicroOperation := by
  intro s i hp hi
  obtain ⟨t, ht⟩ := exec_answers (State.wellFormed_of_current hi) s
  refine ⟨t, ht, (step_of_exec hp hi ht).trans ?_⟩
  simp [State.closePeriod, azEdge, State.adcCh]

/-- Settles O2: without `POR` the step asks the decoder, which gives the reason; with it the decoder is not asked. -/
theorem illegalSeqIsRefused : Obligations.IllegalSeqIsRefused := by
  intro s e he
  refine ⟨fun hp => ?refused, fun hp => ⟨_, step_of_por hp⟩⟩
  simp [step, hp, he]

/-- Settles O8: the step answers with an effect, and every effect leads where the table says. -/
theorem nextSeqFollowsTable : Obligations.NextSeqFollowsTable := by
  intro s i hp hi
  obtain ⟨j, u, e, hs, hj⟩ := step_answers hp hi
  exact ⟨_, hs, e.eq_successor ▸ hj⟩

/-- Settles O27: a banded meaning asks for its index first, and every other one answers. -/
theorem bandSevenIsRefused : Obligations.BandSevenIsRefused :=
  fun _ s => ⟨exec_refuses_band_seven, fun h => exec_answers h s⟩

/-- Settles O28: of all effects only the writer's touches the register, and of an array only the element of its band. -/
theorem dataRegistersHaveOneWriter : Obligations.DataRegistersHaveOneWriter := by
  intro i s t h
  obtain ⟨j, e⟩ := exec_effect h
  exact ⟨fun b => e.raw_writer, e.potraw_writer, e.potBnd_writer, fun b => e.histLevel_writer, fun b => e.outpat_writer,
    e.port_writer, exec_keeps_own h⟩

/-- Settles O29: of all effects only the writers' touch the register; BAND is the operand of the current micro-operation and
changes where a loop over the bands goes on or ends. -/
theorem controlRegistersHaveTheirWriters : Obligations.ControlRegistersHaveTheirWriters := by
  intro i s t h
  obtain ⟨j, e⟩ := exec_effect h
  exact ⟨e.rstl_writer, e.stbl_writer, e.chsel_writer, e.timer_writer, e.band_writer⟩
end

section
/-! The bits of both pattern families on a bus (30_encoding.md R77, R78, R125). -/

namespace Sys2Proof.Machine

open Sys2Proof.Safety

variable {p : Params} {k : Nat}

/-- The highest bit of a Family B pattern is on the bus (R8). -/
theorem bAnchor_lt_outW (hp : p.Valid) : p.bAnchor < p.outW := by
  obtain ⟨-, hw, -, ha, -⟩ := hp
  omega

/-- A Family B pattern has room for six bits below its anchor (R8). -/
theorem five_le_bAnchor (hp : p.Valid) : 5 ≤ p.bAnchor := by
  obtain ⟨-, -, ha, -⟩ := hp
  exact ha

/-- Family B sets the `k` bits from the anchor downward (R78, D15). -/
theorem testBit_patB {a : Nat} (hk : k ≤ a + 1) (j : Nat) :
    (patB a k).testBit j = decide (j ≤ a ∧ a < j + k) := by
  rw [patB, Nat.testBit_shiftLeft, Nat.testBit_two_pow_sub_one, ← Bool.decide_and, decide_eq_decide]
  omega

/-- As many bits of the bus are set as an interval on it is long. -/
theorem onesIn_eq_of_testBit {w v a : Nat} (h : ∀ j, v.testBit j = decide (a ≤ j ∧ j < a + k)) (hw : a + k ≤ w) :
    onesIn w v = k := by
  have hset : (Finset.range w).filter (fun j => v.testBit j) = Finset.Ico a (a + k) := by
    ext j
    simp only [h, decide_eq_true_eq, Finset.mem_filter, Finset.mem_range, Finset.mem_Ico]
    omega
  calc onesIn w v = Nat.count (fun j => v.testBit j) w := by simp [onesIn, Nat.count]
    _ = k := by rw [Nat.count_eq_card_filter_range, hset, Nat.card_Ico, Nat.add_sub_cancel_left]

/-- The set bits of a pattern of a valid build are the `k` bits of an interval of the bus. -/
theorem pattern_interval (hp : p.Valid) (hk : k ≤ 6) (f : Family) :
    ∃ a, a + k ≤ p.outW ∧ ∀ j, (pattern p f k).testBit j = decide (a ≤ j ∧ j < a + k) := by
  have hanchor := five_le_bAnchor hp
  have hbus := bAnchor_lt_outW hp
  cases f with
  | a => exact ⟨0, by omega, fun j => by simp [pattern_a, testBit_patA]⟩
  | b =>
    refine ⟨p.bAnchor + 1 - k, by omega, fun j => (testBit_patB (by omega) j).trans ?_⟩
    rw [decide_eq_decide]
    omega

/-- Every pattern fits the bus. -/
theorem pattern_lt_two_pow_outW (hp : p.Valid) (hk : k ≤ 6) (f : Family) : pattern p f k < 2 ^ p.outW := by
  obtain ⟨a, hw, hbits⟩ := pattern_interval hp hk f
  refine Nat.lt_pow_two_of_testBit _ fun j hj => ?_
  rw [hbits, decide_eq_false_iff_not]
  omega

/-- What MAP leaves is a pattern of the band's family for one of the seven buckets (R126). -/
theorem mapLevel_eq_pattern (p : Params) (level : Nat) (bnd : Vector Nat 5) (c : BandCfg) :
    ∃ k, k ≤ 6 ∧ mapLevel p level bnd c = pattern p c.family k :=
  ⟨bucket level c.floor bnd, bucket_le_six .., rfl⟩

theorem mapLevel_lt_two_pow_outW (hp : p.Valid) (level : Nat) (bnd : Vector Nat 5) (c : BandCfg) :
    mapLevel p level bnd c < 2 ^ p.outW :=
  pattern_lt_two_pow_outW hp (bucket_le_six ..) c.family

end Sys2Proof.Machine

open Sys2Proof Sys2Proof.Machine Sys2Proof.Safety

/-- Settles O49: both families set the bits of an interval of length `k` on the bus, Family A from bit 0 upward, Family B from
the anchor downward. -/
theorem patternBits : Obligations.PatternBits := by
  intro p k hp hk
  have hanchor := five_le_bAnchor hp
  refine ⟨testBit_patA k, testBit_patB (by omega), fun f => ⟨?count, pattern_lt_two_pow_outW hp hk f⟩⟩
  obtain ⟨a, hw, hbits⟩ := pattern_interval hp hk f
  exact onesIn_eq_of_testBit hbits hw
end

section
/-! The parts of the invariant, each kept by every effect and so by every step: the lines (40_sequencer.md R99), TIMER (R87), the
register widths (00_scope.md R9), the data flow of the cycle (10_state.md R22) and the agents as the pins show them (R100). -/

namespace Sys2Proof.Machine

open Sys2Proof.Safety

variable {i j : Instr} {s t u : State}

/-- A property of every element survives the write of one that has it. -/
theorem forall_set {α : Type} {P : α → Prop} {v : Vector α 7} {c : Band} {x : α} (hv : ∀ b : Band, P v[b]) (hx : P x)
    (b : Band) : P (v.set c x)[b] := by
  by_cases h : (v.set c x)[b] = v[b]
  · exact h ▸ hv b
  · obtain rfl := eq_of_set_ne h
    simpa using hx

/-- What the edge shows the ADC as a start: `ADC_START` is decoded from the PHASE of the current micro-operation (R35). -/
theorem State.adcStart_eq (hi : s.current = .ok i) : s.adcStart = (phaseCode i == 6 || phaseCode i == 11) := by
  rw [State.adcStart, (State.fields_of_current hi).left]

/-- Every effect takes the three lines from where its micro-operation has them to where the next one has them (R99). -/
theorem Effect.keeps_levels (e : Effect s i j u)
    (h : s.rstl = resetAsserted i ∧ s.stbl = strobeAsserted i ∧ s.chsel = potSelected i) :
    u.rstl = resetAsserted j ∧ u.stbl = strobeAsserted j ∧ u.chsel = potSelected j := by
  obtain ⟨hr, hs, hc⟩ := h
  cases e
  case rsta | rstd => exact ⟨rfl, hs, hc⟩
  case stba | stbd => exact ⟨hr, rfl, hc⟩
  case selp | selb => exact ⟨hr, hs, rfl⟩
  all_goals exact ⟨hr, hs, hc⟩

/-- Every effect leaves TIMER below the length of the wait it leads to: the loaders load one less than the length, and a wait is
left with TIMER 0 (R87). -/
theorem Effect.keeps_timer (e : Effect s i j u) (hv : s.cfg.Valid) (h : s.timer < waitPeriods s.cfg i) :
    u.timer < waitPeriods u.cfg j := by
  obtain ⟨hRp, -⟩ := hv.resetPulse
  obtain ⟨hRs, -⟩ := hv.resetSettle
  obtain ⟨hSt, -⟩ := hv.strobePhase
  cases e
  case rsta => exact Nat.sub_one_lt_of_lt hRp
  case rstd => exact Nat.sub_one_lt_of_lt hRs
  case stba | stbd => exact Nat.sub_one_lt_of_lt hSt
  case wrpStay | wrsStay | wsaStay | wsdStay => exact Nat.lt_of_le_of_lt (Nat.sub_le _ 1) h
  case wrpLeave h0 | wrsLeave h0 | wsaLeave _ h0 | wsdNext _ h0 _ | wsdLeave h0 => exact Nat.lt_one_iff.mpr h0
  all_goals exact h

/-- The counts the loaders load fit TIMER (R8, R26). -/
theorem loads_lt_two_pow_timerW {p : Params} (hv : p.Valid) :
    p.nRp - 1 < 2 ^ p.timerW ∧ p.nRs - 1 < 2 ^ p.timerW ∧ p.nSt - 1 < 2 ^ p.timerW := by
  obtain ⟨-, -, -, -, -, -, -, -, -, -, hmax⟩ := hv
  omega

/-- The boundaries of a reading in its width fit theirs (R108). -/
theorem boundaries_lt_two_pow_bndW {p : Params} {x : Nat} (hx : x < 2 ^ (p.sampleW - 3)) (k : Fin 5) :
    (boundaries x)[k] < 2 ^ p.bndW := by
  have h := Params.offset_add_lt_two_pow_bndW hx
  rw [boundaries_get]
  omega

/-- Every effect leaves every register in its width (R9, R108, R114). -/
theorem Effect.keeps_widths (e : Effect s i j u) (hv : s.cfg.Valid) (hw : WidthsOk s) : WidthsOk u := by
  obtain ⟨hRp, hRs, hSt⟩ := loads_lt_two_pow_timerW hv
  have havg := hw.push_avg_lt
  obtain ⟨htimer, hraw, hpotraw, hpot, hbnd, hhist, hlevel, houtpat, hport⟩ := hw
  cases e
  case rsta => exact ⟨hRp, hraw, hpotraw, hpot, hbnd, hhist, hlevel, houtpat, hport⟩
  case rstd => exact ⟨hRs, hraw, hpotraw, hpot, hbnd, hhist, hlevel, houtpat, hport⟩
  case stba | stbd => exact ⟨hSt, hraw, hpotraw, hpot, hbnd, hhist, hlevel, houtpat, hport⟩
  case wrpStay | wrsStay | wsaStay | wsdStay =>
    exact ⟨Nat.lt_of_le_of_lt (Nat.sub_le _ 1) htimer, hraw, hpotraw, hpot, hbnd, hhist, hlevel, houtpat, hport⟩
  case sampLeave c _ =>
    exact ⟨htimer, forall_set (P := (· < 2 ^ s.cfg.sampleW)) hraw s.adcData_lt, hpotraw, hpot, hbnd, hhist, hlevel, houtpat,
      hport⟩
  case samppLeave => exact ⟨htimer, hraw, s.adcData_lt, hpot, hbnd, hhist, hlevel, houtpat, hport⟩
  case scale =>
    have hp : scalePot s.potraw < 2 ^ (s.cfg.sampleW - 3) := by
      rw [scalePot_eq]
      exact hv.div_eight_lt hpotraw
    exact ⟨htimer, hraw, hpotraw, hp, boundaries_lt_two_pow_bndW hp, hhist, hlevel, houtpat, hport⟩
  case push c =>
    obtain ⟨-, h1, h2, h3⟩ := hhist c
    refine ⟨htimer, hraw, hpotraw, hpot, hbnd, ?_, forall_set (P := (· < 2 ^ s.cfg.sampleW)) hlevel (havg c), houtpat, hport⟩
    exact forall_set (P := fun h : Hist => h.h0 < 2 ^ s.cfg.sampleW ∧ h.h1 < 2 ^ s.cfg.sampleW ∧ h.h2 < 2 ^ s.cfg.sampleW ∧
      h.h3 < 2 ^ s.cfg.sampleW) hhist ⟨h1, h2, h3, hraw c⟩
  case mapNext | mapLeave =>
    exact ⟨htimer, hraw, hpotraw, hpot, hbnd, hhist, hlevel,
      forall_set (P := (· < 2 ^ s.cfg.outW)) houtpat (mapLevel_lt_two_pow_outW hv ..), hport⟩
  case rend => exact ⟨htimer, hraw, hpotraw, hpot, hbnd, hhist, hlevel, houtpat, houtpat⟩
  all_goals exact ⟨htimer, hraw, hpotraw, hpot, hbnd, hhist, hlevel, houtpat, hport⟩

end Sys2Proof.Machine
end

section
/-! What the data registers hold along the cycle (10_state.md R22, 43_mapper.md R131) and what the pins have shown the ADC and
the analyzer (10_state.md R43, R47), kept by every effect. -/

namespace Sys2Proof.Machine

open Sys2Proof.Safety

variable {i j : Instr} {s t u : State}

@[simp] theorem pattern_zero (p : Params) (f : Family) : pattern p f 0 = 0 := by
  cases f with
  | a => exact patA_zero
  | b => exact patB_zero p.bAnchor

/-- Before SCALE no band is pushed or mapped (R84). -/
theorem no_bands_of_not_scaled (hj : scaled j = false) : pushedBands j = 0 ∧ mappedBands j = 0 := by
  cases j with
  | push | map | rend => cases hj
  | rsta | wrp | rstd | wrs | stba | wsa | conv | samp | stbd | wsd | selp | convp | sampp | selb | scale => exact ⟨rfl, rfl⟩

/-- Before SCALE the data flow speaks of the buses only (R22). -/
theorem dataFlow_of_not_scaled (hj : scaled j = false)
    (hport : ∀ b : Band, ∃ k, k ≤ 6 ∧ u.port[b] = pattern u.cfg u.cfg.bandCfg[b].family k) : DataFlow u j := by
  obtain ⟨hpushed, hmapped⟩ := no_bands_of_not_scaled hj
  exact ⟨by simp [hj], by simp [hpushed], by simp [hmapped], hport⟩

/-- PUSH c adds its own band to the pushed ones: the others keep their history and level (R22). -/
theorem push_keeps_dataFlow (c : Band) (h : DataFlow s (.push (bandBits c))) :
    DataFlow ((s.setHistLevel c (s.hist[c].push s.raw[c]) (s.hist[c].push s.raw[c]).avg).goto (.map (bandBits c)))
      (.map (bandBits c)) := by
  obtain ⟨hscale, hpush, hmap, hport⟩ := h
  simp only [pushedBands, mappedBands, bandBits_toNat] at hpush hmap
  refine ⟨hscale, fun b hb => ?pushed, fun b hb => ?mapped, hport⟩
  case pushed =>
    obtain rfl | hbc := eq_or_ne c b
    · simp [Hist.push]
    · have hlt : b.val < c.val := by
        simp only [pushedBands, bandBits_toNat] at hb
        exact Nat.lt_of_le_of_ne (Nat.le_of_lt_succ hb) fun e => hbc (Fin.ext e.symm)
      simpa [Vector.getElem_set_ne _ _ (Fin.val_ne_of_ne hbc)] using hpush b hlt
  case mapped =>
    have hlt : b.val < c.val := by simpa [mappedBands] using hb
    simpa [Vector.getElem_set_ne _ _ (Nat.ne_of_gt hlt)] using hmap b hlt

/-- MAP c adds its own band to the mapped ones, whatever comes next. -/
theorem map_keeps_dataFlow (c : Band) (h : DataFlow s (.map (bandBits c)))
    (hp : pushedBands j = c.val + 1) (hm : mappedBands j = c.val + 1) :
    DataFlow ((s.setOutpat c (mapLevel s.cfg s.level[c] s.bnd s.cfg.bandCfg[c])).goto j) j := by
  obtain ⟨hscale, hpush, hmap, hport⟩ := h
  simp only [pushedBands, mappedBands, bandBits_toNat] at hpush hmap
  refine ⟨fun _ => hscale rfl, hp ▸ hpush, hm ▸ fun b hb => ?mapped, hport⟩
  obtain rfl | hbc := eq_or_ne c b
  · simp
  · have hlt : b.val < c.val := Nat.lt_of_le_of_ne (Nat.le_of_lt_succ hb) fun e => hbc (Fin.ext e.symm)
    simpa [Vector.getElem_set_ne _ _ (Fin.val_ne_of_ne hbc)] using hmap b hlt

/-- Every effect keeps the data flow of the cycle (R22, R131). -/
theorem Effect.keeps_dataFlow (e : Effect s i j u) (h : DataFlow s i) : DataFlow u j := by
  cases e
  case scale =>
    obtain ⟨-, -, -, hport⟩ := h
    exact ⟨fun _ => ⟨rfl, rfl⟩, fun b hb => absurd hb (Nat.not_lt_zero _), fun b hb => absurd hb (Nat.not_lt_zero _), hport⟩
  case push c => exact push_keeps_dataFlow c h
  case mapNext c hc => refine map_keeps_dataFlow c h ?_ ?_ <;> exact bandBits_toNat ⟨c.val + 1, hc⟩
  case mapLeave => exact map_keeps_dataFlow 6 h rfl rfl
  case rend =>
    obtain ⟨-, -, hmap, -⟩ := h
    refine dataFlow_of_not_scaled rfl fun b => ?_
    obtain ⟨k, hk, hpat⟩ := mapLevel_eq_pattern s.cfg s.level[b] s.bnd s.cfg.bandCfg[b]
    exact ⟨k, hk, (hmap b b.isLt).trans hpat⟩
  all_goals
    obtain ⟨-, -, -, hport⟩ := h
    exact dataFlow_of_not_scaled rfl hport

/-- The analyzer's count after the edge, from the levels of the two lines before and after it (R47). -/
theorem azEdge_eq (hs : s.rstl = resetAsserted i ∧ s.stbl = strobeAsserted i ∧ s.chsel = potSelected i)
    (hu : u.rstl = resetAsserted j ∧ u.stbl = strobeAsserted j ∧ u.chsel = potSelected j) :
    azEdge s u = if !resetAsserted i && resetAsserted j then 0
      else if !strobeAsserted i && strobeAsserted j then s.azSeen + 1 else s.azSeen := by
  obtain ⟨hr, hst, -⟩ := hs
  obtain ⟨hr', hst', -⟩ := hu
  rw [azEdge, hr, hst, hr', hst']

/-- Every effect keeps the analyzer's count of strobe assertions in step with the band: RSTA clears it, STBA adds one (R100). -/
theorem Effect.keeps_strobesSeen (e : Effect s i j u)
    (hl : s.rstl = resetAsserted i ∧ s.stbl = strobeAsserted i ∧ s.chsel = potSelected i) (h : StrobesSeen s.azSeen i) :
    StrobesSeen (azEdge s u) j := by
  rw [azEdge_eq hl (e.keeps_levels hl)]
  cases e
  case rsta => rfl
  case stba c => exact congrArg (· + 1) h
  case wsdNext c _ hc => exact h.trans (by simp [bandBits_toNat])
  case rend => trivial
  all_goals exact h

/-- Without a start and without the flag a conversion in flight stays in flight on its channel. -/
theorem Adc.edge_waiting {a : Adc} (ha : a.inFlight = true) (ch : Bool) (v : Nat) :
    (a.edge false ch false v).inFlight = true ∧ (a.edge false ch false v).channel = a.channel := by
  cases a with
  | idle | done | spent => cases ha
  | started | busy => exact ⟨rfl, rfl⟩

/-- Every effect keeps the awaited conversion in flight on the right channel: CONV and CONVP start it, and while the flag reads
0 it stays in flight (R99, R100). -/
theorem Effect.keeps_adcWaits (e : Effect s i j u) (hi : s.current = .ok i)
    (hl : s.rstl = resetAsserted i ∧ s.stbl = strobeAsserted i ∧ s.chsel = potSelected i) (h : AdcWaits s.adc i) :
    AdcWaits (s.adc.edge s.adcStart s.adcCh s.input.adcDone s.adcData) j := by
  obtain ⟨-, -, hch⟩ := hl
  rw [State.adcStart_eq hi, State.adcCh, hch]
  cases e
  case conv | convp => exact ⟨rfl, rfl⟩
  case sampStay hd | samppStay hd =>
    obtain ⟨hflight, hchannel⟩ := h
    obtain ⟨hflight', hkept⟩ := Adc.edge_waiting hflight _ s.adcData
    exact hd ▸ ⟨hflight', hkept.trans hchannel⟩
  all_goals trivial

/-- A start leads to a busy-wait, and a busy-wait is left only when the flag reads 1 (R86). -/
theorem Effect.waits_for_started (e : Effect s i j u) (hi : s.current = .ok i) :
    (s.adcStart = true → (∃ b : Band, j = .samp (bandBits b)) ∨ j = .sampp) ∧
    ((∃ b : Band, i = .samp (bandBits b)) ∨ i = .sampp → s.input.adcDone = false → j = i) := by
  rw [State.adcStart_eq hi]
  refine ⟨fun hs => ?start, fun hw hd => ?stay⟩
  case start =>
    cases e
    case conv c => exact .inl ⟨c, rfl⟩
    case convp => exact .inr rfl
    all_goals cases hs
  case stay =>
    obtain ⟨b, rfl⟩ | rfl := hw <;> simp [e.eq_successor, successor, hd]

/-- At one edge at least three of the reset line, the strobe line, the channel and the buses stand still (R59). -/
theorem Effect.lines_change_one_at_a_time (e : Effect s i j u) :
    (u.stbl = s.stbl ∧ u.chsel = s.chsel ∧ u.port = s.port) ∨ (u.rstl = s.rstl ∧ u.chsel = s.chsel ∧ u.port = s.port) ∨
    (u.rstl = s.rstl ∧ u.stbl = s.stbl ∧ u.port = s.port) ∨ (u.rstl = s.rstl ∧ u.stbl = s.stbl ∧ u.chsel = s.chsel) := by
  cases e
  case stba | stbd => exact .inr (.inl ⟨rfl, rfl, rfl⟩)
  case selp | selb => exact .inr (.inr (.inl ⟨rfl, rfl, rfl⟩))
  case rend => exact .inr (.inr (.inr ⟨rfl, rfl, rfl⟩))
  all_goals exact .inl ⟨rfl, rfl, rfl⟩

/-- `ADC_START` rises or falls with every line still, or at the edge that ends SELP (C10). -/
theorem Effect.start_changes_alone (e : Effect s i j u) (hs : s.current = .ok i) (hu : u.current = .ok j)
    (h : u.adcStart ≠ s.adcStart) :
    i = .selp ∨ (u.rstl = s.rstl ∧ u.stbl = s.stbl ∧ u.chsel = s.chsel ∧ u.port = s.port) := by
  rw [State.adcStart_eq hs, State.adcStart_eq hu] at h
  cases e
  case selp => exact .inl rfl
  case wsaLeave | conv | convp => exact .inr ⟨rfl, rfl, rfl, rfl⟩
  all_goals exact absurd rfl h

end Sys2Proof.Machine

namespace Sys2Proof.Safety

open Sys2Proof.Machine

variable {i j : Instr} {s t u : State}

theorem step_keeps_cfg (h : step s = .next t) : t.cfg = s.cfg := by
  obtain ⟨-, rfl⟩ | ⟨-, i, u, -, hu, rfl⟩ := step_next h
  · rfl
  · exact (exec_keeps_own hu).left

theorem TimerOk.timer_lt (h : TimerOk s) (hi : s.current = .ok i) : s.timer < waitPeriods s.cfg i := by
  obtain ⟨k, hk, lt⟩ := h
  obtain rfl : k = i := Except.ok.inj (hk.symm.trans hi)
  exact lt

theorem AgentsOk.seen (h : AgentsOk s) (hi : s.current = .ok i) : StrobesSeen s.azSeen i ∧ AdcWaits s.adc i := by
  obtain ⟨k, hk, seen⟩ := h
  obtain rfl : k = i := Except.ok.inj (hk.symm.trans hi)
  exact seen

/-- Zero fits every width. -/
theorem widthsOk_resetFor (p : Params) : WidthsOk (State.resetFor p) := by
  simp [WidthsOk, State.resetFor]

/-- Dark buses show the pattern of bucket 0 (R77, R78). -/
theorem dataFlow_of_dark (h : s.port = Vector.replicate 7 0) : DataFlow s .rsta :=
  dataFlow_of_not_scaled rfl fun b => ⟨0, Nat.zero_le 6, by simp [h]⟩

/-- A valid build meets the invariant right after reset. -/
theorem inv_resetFor {p : Params} (hp : p.Valid) : Inv (State.resetFor p) :=
  have hc : (State.resetFor p).current = .ok .rsta := (State.current_eq _).trans rfl
  ⟨hp, ⟨.rsta, hc, rfl, rfl, rfl⟩, ⟨.rsta, hc, Nat.one_pos⟩, widthsOk_resetFor p, ⟨.rsta, hc, dataFlow_of_dark rfl⟩,
    ⟨.rsta, hc, trivial, trivial⟩⟩

/-- The line invariant is inductive on its own (R99). -/
theorem LinesOk.step (hl : LinesOk s) (h : step s = .next t) : LinesOk t := by
  obtain ⟨-, rfl⟩ | ⟨-, i, j, u, hi, e, rfl, hj⟩ := step_effect h
  · exact ⟨.rsta, s.powerOnReset_current, rfl, rfl, rfl⟩
  · exact ⟨j, hj, e.keeps_levels (hl.levels hi)⟩

theorem TimerOk.step (hv : s.cfg.Valid) (ht : TimerOk s) (h : step s = .next t) : TimerOk t := by
  obtain ⟨-, rfl⟩ | ⟨-, i, j, u, hi, e, rfl, hj⟩ := step_effect h
  · exact ⟨.rsta, s.powerOnReset_current, Nat.one_pos⟩
  · exact ⟨j, hj, e.keeps_timer hv (ht.timer_lt hi)⟩

/-- The widths are inductive for valid parameters, whatever SEQ: a state without a legal SEQ has no step but `POR` (R9). -/
theorem WidthsOk.step (hv : s.cfg.Valid) (hw : WidthsOk s) (h : step s = .next t) : WidthsOk t := by
  obtain ⟨-, rfl⟩ | ⟨-, i, j, u, hi, e, rfl, hj⟩ := step_effect h
  · exact widthsOk_resetFor s.cfg
  · exact e.keeps_widths hv hw

theorem DataOk.step (hd : DataOk s) (h : step s = .next t) : DataOk t := by
  obtain ⟨-, rfl⟩ | ⟨-, i, j, u, hi, e, rfl, hj⟩ := step_effect h
  · exact ⟨.rsta, s.powerOnReset_current, dataFlow_of_dark rfl⟩
  · exact ⟨j, hj, e.keeps_dataFlow (hd.dataFlow hi)⟩

theorem AgentsOk.step (hl : LinesOk s) (ha : AgentsOk s) (h : step s = .next t) : AgentsOk t := by
  obtain ⟨-, rfl⟩ | ⟨-, i, j, u, hi, e, rfl, hj⟩ := step_effect h
  · exact ⟨.rsta, s.powerOnReset_current, trivial, trivial⟩
  · obtain ⟨hseen, hwaits⟩ := ha.seen hi
    exact ⟨j, hj, e.keeps_strobesSeen (hl.levels hi) hseen, e.keeps_adcWaits hi (hl.levels hi) hwaits⟩

/-- A start pulse comes in CONV and CONVP only (R35). -/
theorem adcStart_iff (hi : s.current = .ok i) : s.adcStart = true ↔ (∃ b, i = .conv b) ∨ i = .convp := by
  rw [State.adcStart_eq hi]
  cases i <;> simp [phaseCode]

/-- No micro-operation has both the reset line and the strobe line asserted (R98). -/
theorem not_resetAsserted_and_strobeAsserted (i : Instr) : ¬(resetAsserted i = true ∧ strobeAsserted i = true) := by
  cases i <;> simp [resetAsserted, strobeAsserted]

/-- The busy-waits do not start a conversion (R35). -/
theorem adcStart_of_busyWait (hi : (∃ b : Band, s.current = .ok (.samp (bandBits b))) ∨ s.current = .ok .sampp) :
    s.adcStart = false := by
  obtain ⟨b, hi⟩ | hi := hi <;> exact (State.adcStart_eq hi).trans rfl

end Sys2Proof.Safety

open Sys2Proof Sys2Proof.Machine Sys2Proof.Safety

/-- Settles O39: the line levels go with the current micro-operation through every effect; a start comes in CONV and CONVP only,
and no micro-operation has both lines asserted. -/
theorem channelSelectorDiscipline : Obligations.ChannelSelectorDiscipline := by
  refine ⟨fun s t hl h => hl.step h, fun s hl hs => ?channel, fun s hl both => ?lines⟩
  case channel =>
    obtain ⟨i, hi, -, -, hch⟩ := hl
    rw [State.adcCh, hch, hi]
    obtain ⟨b, rfl⟩ | rfl := (adcStart_iff hi).mp hs <;> rfl
  case lines =>
    obtain ⟨i, hi, hr, hst, -⟩ := hl
    rw [hr, hst] at both
    exact not_resetAsserted_and_strobeAsserted i both

/-- Settles O40: every effect writes values that fit, and a power-on reset writes zeros. -/
theorem registersKeepTheirWidths : Obligations.RegistersKeepTheirWidths :=
  fun _ _ hv hw h => hw.step hv h

/-- Settles O41: every effect keeps the count of strobes and the awaited conversion, given where the lines are. -/
theorem bandIdentityIsKept : Obligations.BandIdentityIsKept :=
  fun _ _ hl ha h => ha.step hl h

/-- Settles O38: each part of the invariant is kept by every step, the agents' part with the help of the lines'. -/
theorem stepKeepsInvariant : Obligations.StepKeepsInvariant := by
  rintro s t ⟨hv, hl, ht, hw, hd, ha⟩ h
  exact ⟨(step_keeps_cfg h).symm ▸ hv, hl.step h, ht.step hv h, hw.step hv h, hd.step h, ha.step hl h⟩

/-- Settles O37: zeros fit every width, the lines are those of RSTA and the dark buses show bucket 0. -/
theorem resetMeetsInvariant : Obligations.ResetMeetsInvariant :=
  ⟨inv_resetFor (by decide), fun _ => inv_resetFor⟩

/-- Settles O33: a start leads to a busy-wait, and a conversion still in flight after the edge was one whose flag read 0, for
which the busy-wait stays. -/
theorem noStartWhileConversionInFlight : Obligations.NoStartWhileConversionInFlight := by
  refine ⟨fun s t _ hp h hw hflight => ?step, fun s hw hs => ?start⟩
  case step =>
    obtain ⟨hp', -⟩ | ⟨-, i, j, u, hi, e, rfl, hj⟩ := step_effect h
    · exact absurd (hp.symm.trans hp') Bool.false_ne_true
    obtain ⟨hstart, hstay⟩ := e.waits_for_started hi
    simp only [hi, hj, Except.ok.injEq] at hw ⊢
    cases hs : s.adcStart with
    | true => exact hstart hs
    | false =>
      rw [State.closePeriod_adc, hs, Adc.edge_inFlight, Bool.and_eq_true, Bool.not_eq_true'] at hflight
      obtain ⟨hwas, hd⟩ := hflight
      exact hstay (hw hwas) hd ▸ hw hwas
  case start =>
    by_contra hflight
    rw [Bool.not_eq_false] at hflight
    exact absurd (hs.symm.trans (adcStart_of_busyWait (hw hflight))) Bool.false_ne_true.symm

/-- Settles O53: three of the four groups stand still at every edge; `ADC_START` changes with all of them still but at the end
of SELP; the buses have one writer. -/
theorem pinsChangeOneAtATime : Obligations.PinsChangeOneAtATime := by
  intro s t level _ hp h
  obtain ⟨hp', -⟩ | ⟨-, i, j, u, hi, e, rfl, hj⟩ := step_effect h
  · exact absurd (hp.symm.trans hp') Bool.false_ne_true
  refine ⟨?one, fun hs hother => ?start, fun hport => ?buses⟩
  case one =>
    obtain ⟨h1, h2, h3⟩ | ⟨h1, h2, h3⟩ | ⟨h1, h2, h3⟩ | ⟨h1, h2, h3⟩ := e.lines_change_one_at_a_time <;>
      simp [State.azResetAt, State.azStrobe, State.adcCh, h1, h2, h3] <;>
      exact ite_le_one (by decide) (by decide)
  case start =>
    obtain rfl | ⟨h1, h2, h3, h4⟩ := e.start_changes_alone hi (e.current hi) hs
    · exact hi
    · simp [State.azResetAt, State.azStrobe, State.adcCh, h1, h2, h3, h4] at hother
  case buses => exact e.port_writer hport ▸ hi

/-- Settles O34: a sampled `POR` answers the reset state whatever SEQ holds. -/
theorem porForcesResetState : Obligations.PorForcesResetState := by
  intro s hp
  refine ⟨_, step_of_por hp, rfl, rfl, rfl, rfl, rfl, rfl, fun b => ?_, fun b => ?_,
    (State.closePeriod_current _ _).trans s.powerOnReset_current, rfl⟩ <;> simp

/-- Settles O35: the pins read off the reset registers, for either level of an asserted reset line. -/
theorem pinsAtReset : Obligations.PinsAtReset :=
  fun _ _ => ⟨rfl, (State.current_eq _).trans rfl, rfl⟩
end

section
/-! The micro-operations of the two conversions, of the first strobe and of the render (40_sequencer.md R88, R92, R94, R95;
41_scaler.md R103, R104; 43_mapper.md R129), and the period counts of 30_encoding.md R75. -/

open Sys2Proof Sys2Proof.Machine Sys2Proof.Safety

/-- Settles O9: RSTA is one period on the way to WRP, and in RSTA, WRP and RSTD the line invariant has the strobe line released. -/
theorem rstaAssertsResetLine : Obligations.RstaAssertsResetLine := by
  refine ⟨rfl, fun s => rfl, fun s hi hp => lastsExactly_one_of_exec hp hi rfl rfl nofun, fun s t level h => ?pin,
    fun s hl hi => hl.rstl_eq hi, fun s i hl hi hmem => ?strobe⟩
  case pin =>
    cases h
    rfl
  case strobe =>
    have hreleased : ∀ k ∈ [Instr.rsta, .wrp, .rstd], strobeAsserted k = false := by decide
    exact (hl.stbl_eq hi).trans (hreleased i hmem)

/-- Settles O13: STBA b is one period on the way to WSA b, and the active-low strobe pin is then at level 0. -/
theorem stbaAssertsStrobe : Obligations.StbaAssertsStrobe := by
  intro b
  refine ⟨(decode_add_band 4 b).trans (decodeBanded_bandBits b .stba), exec_stba b,
    fun s hi hp => lastsExactly_one_of_exec hp hi (exec_stba b s) (legal_bandBits b) nofun, fun s t h => ?pin,
    fun s hl hi => hl.stbl_eq hi⟩
  rw [exec_stba] at h
  cases h
  rfl

/-- Settles O15: CONV b is one period on the way to SAMP b; `ADC_START` is decoded from PHASE, which is 6 and then 7. -/
theorem convStartsBandConversion : Obligations.ConvStartsBandConversion := by
  intro b
  refine ⟨(decode_add_band 6 b).trans (decodeBanded_bandBits b .conv), exec_conv b,
    fun s hi hp => lastsExactly_one_of_exec hp hi (exec_conv b s) (legal_bandBits b) nofun,
    fun s hi => (State.adcStart_eq hi).trans rfl, fun s t h => ?after, fun s hl hi => ⟨hl.chsel_eq hi, ?strobe⟩⟩
  case after =>
    rw [exec_conv] at h
    cases h
    rfl
  case strobe => rw [State.azStrobe, hl.stbl_eq hi]; rfl

/-- Settles O16: SAMP b captures when the flag reads 1 and else does nothing. -/
theorem sampCapturesBandSample : Obligations.SampCapturesBandSample := by
  intro b
  refine ⟨(decode_add_band 7 b).trans (decodeBanded_bandBits b .samp), fun s hd => exec_samp_done hd,
    fun s hd => exec_samp_wait hd, fun s hl hi => ⟨?strobe, hl.chsel_eq hi⟩⟩
  rw [State.azStrobe, hl.stbl_eq hi]; rfl

/-- Settles O20: CONVP is one period on the way to SAMPP; `ADC_START` is decoded from PHASE, which is 11 and then 12. -/
theorem convpStartsPotConversion : Obligations.ConvpStartsPotConversion := by
  refine ⟨rfl, fun s => rfl, fun s hi hp => lastsExactly_one_of_exec hp hi rfl rfl nofun,
    fun s hi => (State.adcStart_eq hi).trans rfl, fun s t h => ?after, fun s hl hi => hl.chsel_eq hi⟩
  cases h
  rfl

/-- Settles O21: SAMPP captures when the flag reads 1 and else does nothing. -/
theorem samppCapturesPotSample : Obligations.SamppCapturesPotSample := by
  refine ⟨rfl, fun s hd => exec_sampp_done hd, fun s hd => exec_sampp_wait hd, fun s hl hi => ⟨?strobe, hl.chsel_eq hi⟩⟩
  rw [State.azStrobe, hl.stbl_eq hi]; rfl

/-- Settles O26: REND is one period on the way to RSTA, and a bus shows its PORT register. -/
theorem rendWritesAllPorts : Obligations.RendWritesAllPorts := by
  refine ⟨rfl, fun s => rfl, fun s hi hp => lastsExactly_one_of_exec hp hi rfl rfl nofun, fun s t b h => ?bus⟩
  cases h
  rfl

/-- Settles O59: the count is the ceiling of `us * f / 10^6`, raised to 1. -/
theorem periodCountsAreLeast : Obligations.PeriodCountsAreLeast := by
  refine ⟨fun us f => ?least, by decide, rfl, rfl, rfl⟩
  unfold Params.leastCount Params.LastsAtLeast
  generalize us * f = x
  exact ⟨by omega, by omega, fun n h1 hn => by omega⟩
end

section
/-! The laws of the filter, the scaler and the mapper (42_filter.md R111 to R113, 41_scaler.md R107, 43_mapper.md R119 to R122,
R130). -/

namespace Sys2Proof.Machine

open Sys2Proof.Safety

/-- What PUSH b leaves when the sample `v` stands in `RAW[b]` (R110, R136). -/
def State.pushed (b : Band) (s : State) (v : Nat) : State :=
  ((s.setRaw b v).setHistLevel b (s.hist[b].push v) (s.hist[b].push v).avg).goto (.map (bandBits b))

variable {b c : Band} {s : State} {v : Nat}

@[simp] theorem State.pushed_hist_self : (s.pushed b v).hist[b] = s.hist[b].push v := by simp [State.pushed]

@[simp] theorem State.pushed_level_self : (s.pushed b v).level[b] = (s.hist[b].push v).avg := by simp [State.pushed]

/-- PUSH b leaves the other bands alone (R115). -/
theorem State.pushed_other (h : c ≠ b) : (s.pushed b v).hist[c] = s.hist[c] ∧ (s.pushed b v).level[c] = s.level[c] ∧
    (s.pushed b v).raw[c] = s.raw[c] :=
  have hne : b.val ≠ c.val := fun e => h (Fin.ext e.symm)
  ⟨Vector.getElem_set_ne b.isLt c.isLt hne, Vector.getElem_set_ne b.isLt c.isLt hne,
    Vector.getElem_set_ne b.isLt c.isLt hne⟩

/-- Pushes answer, one after another. -/
theorem pushAll_eq (b : Band) (vs : List Nat) (s : State) : pushAll b vs s = .next (vs.foldl (State.pushed b) s) := by
  induction vs generalizing s with
  | nil => rfl
  | cons v vs ih =>
    have hpush : exec (.push (bandBits b)) (s.setRaw b v) = .next (s.pushed b v) := by
      rw [exec_push]
      simp [State.pushed]
    rw [pushAll, hpush]
    exact ih _

/-- Any number of pushes to band b leave the other bands alone (R115). -/
theorem pushed_foldl_other (h : c ≠ b) (vs : List Nat) (s : State) :
    (vs.foldl (State.pushed b) s).hist[c] = s.hist[c] ∧ (vs.foldl (State.pushed b) s).level[c] = s.level[c] ∧
    (vs.foldl (State.pushed b) s).raw[c] = s.raw[c] := by
  induction vs generalizing s with
  | nil => exact ⟨rfl, rfl, rfl⟩
  | cons v vs ih =>
    obtain ⟨hh, hl, hr⟩ := State.pushed_other (s := s) (v := v) h
    obtain ⟨ih1, ih2, ih3⟩ := ih (s.pushed b v)
    exact ⟨ih1.trans hh, ih2.trans hl, ih3.trans hr⟩

/-- Every threshold of the comparator tree, the floor first (R118). -/
def threshold (floor : Nat) (bnd : Vector Nat 5) : Fin 6 → Nat := Fin.cons floor fun i : Fin 5 => bnd[i]

theorem comparators_eq_threshold (level floor : Nat) (bnd : Vector Nat 5) (k : Fin 6) :
    (comparators level floor bnd)[k] = decide (level > threshold floor bnd k) := by
  match k with
  | 0 | 1 | 2 | 3 | 4 | 5 => rfl

/-- The thresholds of ascending boundaries above the floor ascend (R119). -/
theorem threshold_monotone {floor : Nat} {bnd : Vector Nat 5} (h : Ascending floor bnd) : Monotone (threshold floor bnd) := by
  obtain ⟨h0, h1, h2, h3, h4⟩ := h
  refine Fin.monotone_iff_le_succ.mpr fun i => ?_
  match i with
  | 0 => exact h0.le
  | 1 => exact h1.le
  | 2 => exact h2.le
  | 3 => exact h3.le
  | 4 => exact h4.le

/-- The ladder's steps cover every level. -/
theorem exists_ladder (level floor : Nat) (bnd : Vector Nat 5) : ∃ k, Ladder level floor bnd k := by
  by_cases h0 : level ≤ floor
  · exact ⟨0, by omega⟩
  by_cases h1 : level ≤ bnd[0]
  · exact ⟨1, by omega⟩
  by_cases h2 : level ≤ bnd[1]
  · exact ⟨2, by omega⟩
  by_cases h3 : level ≤ bnd[2]
  · exact ⟨3, by omega⟩
  by_cases h4 : level ≤ bnd[3]
  · exact ⟨4, by omega⟩
  by_cases h5 : level ≤ bnd[4]
  · exact ⟨5, by omega⟩
  · exact ⟨6, by omega⟩

/-- On the ladder's step `k` the level is above the first `k` of the ascending thresholds and no other (R120, R121). -/
theorem eq_bucket_of_ladder {level floor k : Nat} {bnd : Vector Nat 5} (h : Ascending floor bnd)
    (hk : Ladder level floor bnd k) : k = bucket level floor bnd := by
  obtain ⟨h0, h1, h2, h3, h4⟩ := h
  rw [bucket_eq]
  obtain ⟨rfl, hk⟩ | ⟨rfl, hk⟩ | ⟨rfl, hk⟩ | ⟨rfl, hk⟩ | ⟨rfl, hk⟩ | ⟨rfl, hk⟩ | ⟨rfl, hk⟩ := hk <;>
    simp (disch := omega) only [if_pos, if_neg]

theorem ladder_iff_eq_bucket {floor : Nat} {bnd : Vector Nat 5} (h : Ascending floor bnd) (level k : Nat) :
    Ladder level floor bnd k ↔ k = bucket level floor bnd := by
  refine ⟨eq_bucket_of_ladder h, fun hk => ?_⟩
  obtain ⟨m, hm⟩ := exists_ladder level floor bnd
  rwa [hk, ← eq_bucket_of_ladder h hm]

/-- Each comparison adds at most as much to the bucket as one it implies. -/
theorem ite_le_ite_of_imp {p q : Prop} [Decidable p] [Decidable q] (h : p → q) :
    (if p then 1 else 0) ≤ if q then 1 else 0 := by
  by_cases hp : p
  · rw [if_pos (h hp)]
    exact ite_le_one le_rfl (by decide)
  · rw [if_neg hp]
    exact Nat.zero_le _

/-- The bucket does not fall when the level rises and no boundary does, or the boundaries fall and the level does not. -/
theorem bucket_le_bucket {level level' floor : Nat} {bnd bnd' : Vector Nat 5} (hl : level ≤ level')
    (hb : ∀ k : Fin 5, bnd'[k] ≤ bnd[k]) : bucket level floor bnd ≤ bucket level' floor bnd' := by
  have term (k : Fin 5) : level > bnd[k] → level' > bnd'[k] := fun h => Nat.lt_of_le_of_lt (hb k) (h.trans_le hl)
  rw [bucket_eq, bucket_eq]
  repeat' apply Nat.add_le_add
  · exact ite_le_ite_of_imp fun h => h.trans_le hl
  · exact ite_le_ite_of_imp (term 0)
  · exact ite_le_ite_of_imp (term 1)
  · exact ite_le_ite_of_imp (term 2)
  · exact ite_le_ite_of_imp (term 3)
  · exact ite_le_ite_of_imp (term 4)

/-- The boundaries ascend above every floor below 110, for every potentiometer value (R107). -/
theorem ascending_boundaries {floor : Nat} (hf : floor < 110) (p : Nat) : Ascending floor (boundaries p) := by
  rw [boundaries_eq]
  exact ⟨Nat.lt_add_right p hf, by simp, by simp, by simp, by simp⟩

/-- Above a floor below 110 the bucket is 0 up to the floor (R122). -/
theorem bucket_boundaries_eq_zero_iff {floor : Nat} (hf : floor < 110) (level p : Nat) :
    bucket level floor (boundaries p) = 0 ↔ level ≤ floor := by
  rw [eq_comm, ← ladder_iff_eq_bucket (ascending_boundaries hf p)]
  simp [Ladder]

/-- Bucket 6 begins above the top boundary (R122). -/
theorem bucket_boundaries_eq_six_iff {floor : Nat} (hf : floor < 110) (level p : Nat) :
    bucket level floor (boundaries p) = 6 ↔ 151 + p ≤ level := by
  rw [eq_comm, ← ladder_iff_eq_bucket (ascending_boundaries hf p), boundaries_eq]
  simp [Ladder]
  omega

/-- Every floor of a valid build is below 110 (R8). -/
theorem floor_lt {p : Params} (hp : p.Valid) (b : Band) : p.bandCfg[b].floor < 110 := by
  obtain ⟨-, -, -, -, ⟨-, hfloor⟩, -⟩ := hp
  exact hfloor b

/-- A level up to the floor is mapped to the dark pattern (R130). -/
theorem mapLevel_eq_zero {p : Params} (hp : p.Valid) {b : Band} {level : Nat} (h : level ≤ p.bandCfg[b].floor) (x : Nat) :
    mapLevel p level (boundaries x) p.bandCfg[b] = 0 := by
  rw [mapLevel, (bucket_boundaries_eq_zero_iff (floor_lt hp b) level x).mpr h, pattern_zero]

/-- SCALE leaves the boundaries of an eighth of the reading (R106). -/
theorem scaled_of_exec_scale {s t : State} (h : exec .scale s = .next t) :
    t.pot = s.potraw / 8 ∧ t.bnd = boundaries (s.potraw / 8) := by
  rw [exec_scale] at h
  cases h
  exact ⟨rfl, (boundaries_eq _).symm⟩

end Sys2Proof.Machine

open Sys2Proof Sys2Proof.Machine Sys2Proof.Safety

/-- Settles O42: pushes fold over the history, each shifting in one sample, and touch their own band only. -/
theorem fifoHoldsLastFour : Obligations.FifoHoldsLastFour := by
  refine ⟨fun s b vs w x y z => ⟨_, pushAll_eq b _ s, ?history, ?level, fun c hc => pushed_foldl_other hc _ s⟩,
    fun s b x y z h => ⟨⟨_, pushAll_eq b _ s, ?one⟩, ⟨_, pushAll_eq b _ s, ?two⟩, _, pushAll_eq b _ s, ?three⟩⟩
  case history => simp only [List.foldl_append, List.foldl, State.pushed_hist_self, Hist.push]
  case level => simp only [List.foldl_append, List.foldl, State.pushed_hist_self, State.pushed_level_self, Hist.push, Hist.avg_eq]
  all_goals simp only [List.foldl, State.pushed_hist_self, Hist.push, h]

/-- Settles O43: four pushes of one value fill the window with it; fewer leave the older slots of the constant history. -/
theorem filterConverges : Obligations.FilterConverges := by
  refine ⟨fun s b v => ⟨_, pushAll_eq b _ s, ?filled⟩,
    fun s b u v h => ⟨⟨_, pushAll_eq b _ s, ?one⟩, ⟨_, pushAll_eq b _ s, ?two⟩, _, pushAll_eq b _ s, ?three⟩⟩
  case filled =>
    simp only [List.foldl, State.pushed_hist_self, State.pushed_level_self, Hist.push, Hist.avg_eq]
    omega
  all_goals
    simp only [List.foldl, State.pushed_hist_self, State.pushed_level_self, Hist.push, Hist.avg_eq, h]
    congr 1
    omega

/-- Settles O44: the average is a quarter of the sum, truncated, and a slot moved by 4 moves the quarter by 1. -/
theorem averageLaws : Obligations.AverageLaws := by
  simp only [Obligations.AverageLaws, Hist.avg_eq]
  refine ⟨fun h => ?between, fun h k h0 h1 h2 h3 => ?monotone, fun a b c d => ?one, fun a b c d => ?four,
    fun a b c d => ?order⟩
  all_goals omega

/-- Settles O45: the boundaries are an eighth of the reading over fixed offsets, so they move with the carry of the three bits
the shift drops. -/
theorem boundaryLaws : Obligations.BoundaryLaws := by
  refine ⟨fun s t h => ?ascending, fun s t t' e h h' i => ?moved⟩
  case ascending =>
    obtain ⟨hpot, hbnd⟩ := scaled_of_exec_scale h
    have hget (k : Fin 5) : t.bnd[k] = 110 + 10 * k.val + t.pot := by rw [hbnd, hpot, boundaries_get]
    have hrise (k : Nat) (hk : k + 1 < 5) : t.bnd[k + 1] = t.bnd[k] + 10 := by
      have hlow : t.bnd[k] = 110 + 10 * k + t.pot := hget ⟨k, Nat.lt_of_succ_lt hk⟩
      have hhigh : t.bnd[k + 1] = 110 + 10 * (k + 1) + t.pot := hget ⟨k + 1, hk⟩
      omega
    refine ⟨hbnd ▸ ascending_boundaries (by decide) _, hrise 0 (by decide), hrise 1 (by decide), hrise 2 (by decide),
      hrise 3 (by decide), fun k => (hget k).trans (Nat.add_comm _ _), fun hv b => ?_⟩
    have hlowest : t.bnd[0] = 110 + t.pot := hget 0
    exact hlowest ▸ Nat.lt_add_right _ (floor_lt hv b)
  case moved =>
    obtain ⟨-, hbnd⟩ := scaled_of_exec_scale h
    have hbnd' : t'.bnd = boundaries ((s.potraw + e) / 8) := (scaled_of_exec_scale h').right
    rw [hbnd, hbnd', boundaries_get, boundaries_get]
    refine ⟨fun he => by omega, fun he => ?_⟩
    split <;> omega

/-- Settles O46: ascending thresholds make the strict comparisons a thermometer code, and the ladder's steps cover every level. -/
theorem bucketIsTheLadder : Obligations.BucketIsTheLadder := by
  intro level floor bnd h
  refine ⟨fun j k hjk hk => ?thermometer, ladder_iff_eq_bucket h level⟩
  rw [comparators_eq_threshold, decide_eq_true_iff] at hk ⊢
  exact Nat.lt_of_le_of_lt (threshold_monotone h hjk) hk

/-- Settles O48: each comparison can only turn on as the level rises and only off as the boundaries rise; the ladder has the two
ends. -/
theorem bucketIsMonotone : Obligations.BucketIsMonotone := by
  intro level floor p hf
  refine ⟨fun level' hl => bucket_le_bucket hl fun k => le_rfl, fun p' hp => bucket_le_bucket le_rfl fun k => ?pot,
    bucket_boundaries_eq_six_iff hf level p, bucket_boundaries_eq_zero_iff hf level p⟩
  rw [boundaries_get, boundaries_get]
  exact Nat.add_le_add_left hp _

/-- Settles O52: a level up to the floor falls into bucket 0, whose pattern is 0 in both families; zero samples over zero
histories have level 0. -/
theorem silenceIsDark : Obligations.SilenceIsDark := by
  refine ⟨fun b s p hv hb hl => ⟨_, exec_map b s, ?band⟩, fun p r hp => Prod.ext ?histories ?ports⟩
  case band =>
    rw [outpat_of_exec_map (exec_map b s), hb]
    exact mapLevel_eq_zero hv hl p
  case histories =>
    ext b hb : 1
    simp [cycle, cycleHist, Hist.push]
  case ports =>
    ext b hb
    have hlevel : (cycleLevel (Vector.replicate 7 ⟨0, 0, 0, 0⟩) (Vector.replicate 7 0))[b] = 0 := by
      simp [cycleLevel, Hist.push, Hist.avg_eq]
    have hdark := mapLevel_eq_zero (b := ⟨b, hb⟩) hp (Nat.zero_le _) (scalePot r)
    simpa [cycle, cyclePorts, hlevel, bounds] using hdark
end

section
/-! The ADC's ports along a step (60_exceptions.md R160, 10_state.md R39): what the record of the pins lets them read at the next
edge, and that a busy-wait stays while the flag reads 0. -/

namespace Sys2Proof.Machine

variable {a : Adc} {i : Instr} {s t : State}

/-- With no conversion in flight and the flag down the record lets the flag read 0 only (R160). -/
theorem Adc.doneReads_edge (ha : a.inFlight = false) (ch : Bool) (v : Nat) (raised : Bool) :
    (a.edge false ch false v).doneReads raised = false := by
  cases a with
  | started | busy => cases ha
  | idle | done | spent => rfl

/-- Where the flag reads 1 the record holds what the data port reads, in the port's width (R38, R160). -/
theorem Adc.edge_of_doneReads {raised : Bool} (h : a.doneReads raised = true) (ch : Bool) (x m : Nat) :
    ∃ c w, a.edge false ch true (a.dataReads raised x % m) = .done c w ∧ w % m = a.dataReads raised x % m := by
  cases a with
  | idle | spent => cases h
  | started c | busy c => exact ⟨c, x % m, rfl, Nat.mod_mod x m⟩
  | done c v =>
    obtain rfl : raised = true := h
    exact ⟨c, v, rfl, rfl⟩

/-- What every step does beside the registers: it keeps the parameters and shows the ADC the pins of the period. -/
theorem step_closes (h : step s = .next t) : ∃ u, u.cfg = s.cfg ∧ t = s.closePeriod u := by
  obtain ⟨-, rfl⟩ | ⟨-, i, u, -, hu, rfl⟩ := step_next h
  · exact ⟨s.powerOnReset, rfl, rfl⟩
  · exact ⟨u, (exec_keeps_own hu).left, rfl⟩

theorem step_adc (h : step s = .next t) : t.adc = s.adc.edge s.adcStart s.adcCh s.input.adcDone s.adcData := by
  obtain ⟨u, -, rfl⟩ := step_closes h
  rfl

/-- After a start pulse a conversion is in flight, its flag not yet sampled. -/
theorem State.closePeriod_adc_of_start (hs : s.adcStart = true) (u : State) : (s.closePeriod u).adc = .started s.adcCh := by
  rw [State.closePeriod_adc, hs]
  rfl

/-- A busy-wait: it writes what `ADC_DATA` reads and goes to `j` when the flag reads 1, and stays else (R95, R104). It drives no
start pulse (R35). -/
structure IsBusyWait (i j : Instr) (capture : State → Nat → State) : Prop where
  exec_eq    : ∀ s : State, exec i s = .next (if s.adcDone then (capture s s.adcData).goto j else s)
  wellFormed : j.wellFormed = true
  noStart    : (phaseCode i == 6 || phaseCode i == 11) = false

theorem isBusyWait_samp (c : Band) : IsBusyWait (.samp (bandBits c)) (.stbd (bandBits c)) (fun s v => s.setRaw c v) :=
  ⟨exec_samp c, legal_bandBits c, rfl⟩

theorem isBusyWait_sampp : IsBusyWait .sampp .selb State.setPotraw := ⟨fun _ => rfl, rfl, rfl⟩

/-- The two busy-waits of the map (R70). -/
theorem exists_isBusyWait (h : (∃ b : Band, i = .samp (bandBits b)) ∨ i = .sampp) :
    ∃ j capture, IsBusyWait i j capture := by
  obtain ⟨b, rfl⟩ | rfl := h
  · exact ⟨_, _, isBusyWait_samp b⟩
  · exact ⟨_, _, isBusyWait_sampp⟩

variable {j : Instr} {capture : State → Nat → State}

theorem IsBusyWait.step_stays (w : IsBusyWait i j capture) (hi : s.current = .ok i) (hp : s.input.por = false)
    (hd : s.input.adcDone = false) : step s = .next (s.closePeriod s) :=
  step_of_exec hp hi ((w.exec_eq s).trans (by rw [State.adcDone, hd]; rfl))

theorem IsBusyWait.step_leaves (w : IsBusyWait i j capture) (hi : s.current = .ok i) (hp : s.input.por = false)
    (hd : s.input.adcDone = true) : step s = .next (s.closePeriod ((capture s s.adcData).goto j)) :=
  step_of_exec hp hi ((w.exec_eq s).trans (by rw [State.adcDone, hd]; rfl))

end Sys2Proof.Machine

open Sys2Proof Sys2Proof.Machine Sys2Proof.Safety

/-- Settles O60: the record after the edge bounds what the flag and the data port can read at the next one. -/
theorem adcRaisesDoneOnlyForStartedConversion : Obligations.AdcRaisesDoneOnlyForStartedConversion := by
  refine ⟨fun s t h hflight hs hd => ?flag, fun s t h hs hd hd' => ?data, fun s hidle => ?idle⟩
  case flag =>
    rw [State.input, Adc.restrict, step_adc h, hs, hd]
    exact Adc.doneReads_edge hflight _ _ _
  case data =>
    obtain ⟨c, w, hdone, hw⟩ := Adc.edge_of_doneReads hd s.adcCh (s.inputAt 0).adcData (2 ^ s.cfg.sampleW)
    have ht : t.adc = .done c w := by
      rw [step_adc h, hs, hd]
      exact hdone
    have hraised : (t.inputAt 0).adcDone = true := by
      rw [State.input, ht] at hd'
      exact hd'
    calc t.adcData = w % 2 ^ s.cfg.sampleW := by
          simp [State.adcData, State.input, Adc.restrict, ht, Adc.dataReads, hraised, step_keeps_cfg h]
      _ = s.adcData := hw
  case idle =>
    rw [State.input, hidle]
    rfl

/-- Settles O32: a start leads to a busy-wait, whose first flag the contract keeps at 0, so it stays. -/
theorem contractMakesSampleLastTwoPeriods : Obligations.ContractMakesSampleLastTwoPeriods := by
  intro s t i hi hs hp h hp' hcontract
  obtain ⟨hpor, -⟩ | ⟨-, k, j, u, hk, e, rfl, hj⟩ := step_effect h
  · exact absurd (hp.symm.trans hpor) Bool.false_ne_true
  obtain ⟨hstart, -⟩ := e.waits_for_started hk
  obtain ⟨_, _, w⟩ := exists_isBusyWait (hstart hs)
  have hd : (s.closePeriod u).input.adcDone = false := by
    rw [State.adcKeepsContract, State.closePeriod_adc_of_start hs] at hcontract
    simpa [Adc.allows] using hcontract
  refine ⟨_, w.step_stays hj hp' hd, State.closePeriod_current _ _, ?_⟩
  exact ⟨rfl, rfl, rfl, rfl, rfl, rfl, rfl, rfl, rfl, rfl, rfl, rfl, rfl, rfl⟩
end

section
/-! Runs in stretches (40_sequencer.md R87, 70_reset_and_hazards.md R177): the registers of a state apart from the model's own
fields, and for each kind of micro-operation how long it is current, what is held meanwhile, and what it leaves. -/

namespace Sys2Proof.Machine

/-- The registers and the parameters of a state, with the environment's fields blanked (R13). -/
def State.regs (s : State) : State := { s with inputs := [], edge := 0, adc := .idle, azSeen := 0 }

@[simp] theorem State.regs_cfg (s : State) : s.regs.cfg = s.cfg := rfl

/-- The state with another TIMER. -/
def State.withTimer (s : State) (x : Nat) : State := { s with timer := x }

/-- What is read of a state's registers or parameters is read of what they are known to be. -/
theorem State.read_of_regs {α : Type} {s r : State} (f : State → α) (h : s.regs = r) (hf : f s.regs = f s := by rfl) :
    f s = f r :=
  hf.symm.trans (congrArg f h)

theorem State.current_of_regs {s r : State} {i : Instr} (h : s.regs = r.goto i) (hi : i.wellFormed = true) :
    s.current = .ok i :=
  (State.read_of_regs State.current h).trans (r.goto_current_of_wellFormed hi)

end Sys2Proof.Machine

namespace Sys2Proof.Safety

open Sys2Proof.Machine

variable {i j : Instr} {k m n d v : Nat} {s t u r : State}

theorem sameRegisters_of_regs (h : t.regs = r) : SameRegisters r t :=
  ⟨State.read_of_regs State.phase h, State.read_of_regs State.band h, State.read_of_regs State.timer h,
    State.read_of_regs State.rstl h, State.read_of_regs State.stbl h, State.read_of_regs State.chsel h,
    State.read_of_regs State.raw h, State.read_of_regs State.potraw h, State.read_of_regs State.pot h,
    State.read_of_regs State.bnd h, State.read_of_regs State.hist h, State.read_of_regs State.level h,
    State.read_of_regs State.outpat h, State.read_of_regs State.port h⟩

/-- WSD's way on is the table's (R97). -/
theorem nextBand_stba_selp (b : Band) : nextBand b .stba .selp = successor true false (.wsd (bandBits b)) := by
  revert b; decide

/-! ### What every run keeps -/

theorem runsTo_snoc (h : RunsTo n s t) (hs : step t = .next u) : RunsTo (n + 1) s u := runsTo_add h (runsTo_one hs)

/-- A longer run goes through where a shorter one ends. -/
theorem runsTo_rest (h : RunsTo m s t) (hk : m ≤ k) (hu : RunsTo k s u) : RunsTo (k - m) t u := by
  induction m generalizing k s with
  | zero => simpa [runsTo_zero_iff.mp h] using hu
  | succ m ih =>
    obtain ⟨k, rfl⟩ := Nat.exists_eq_add_of_le' hk
    obtain ⟨x, hx, hxt⟩ := runsTo_succ_iff.mp h
    obtain ⟨y, hy, hyu⟩ := runsTo_succ_iff.mp hu
    obtain rfl : x = y := Host.Outcome.next.inj (hx.symm.trans hy)
    simpa [Nat.add_sub_add_right] using ih hxt (Nat.le_add_left m k) hyu

/-- A run keeps the parameters, uses up one input per period and counts the edges. -/
theorem runsTo_own (h : RunsTo n s t) :
    t.cfg = s.cfg ∧ (∀ k, t.inputAt k = s.inputAt (n + k)) ∧ t.edge = s.edge + n := by
  induction n generalizing s with
  | zero =>
    obtain rfl := runsTo_zero_iff.mp h
    exact ⟨rfl, fun k => by rw [Nat.zero_add], rfl⟩
  | succ n ih =>
    obtain ⟨x, hx, hxt⟩ := runsTo_succ_iff.mp h
    obtain ⟨hcfg, hin, hedge⟩ := ih hxt
    obtain ⟨y, hy, rfl⟩ := step_closes hx
    refine ⟨hcfg.trans hy, fun k => ?_, hedge.trans ?_⟩
    · rw [hin, State.closePeriod_inputAt, Nat.add_right_comm]
    · rw [State.closePeriod_edge, Nat.add_right_comm, Nat.add_assoc]

theorem runsTo_cfg (h : RunsTo n s t) : t.cfg = s.cfg := (runsTo_own h).left

theorem runsTo_inputAt (h : RunsTo n s t) (k : Nat) : t.inputAt k = s.inputAt (n + k) := (runsTo_own h).right.left k

/-- `POR` stays 0 in the part of a run that is left. -/
theorem NoPor.rest (hp : NoPor s n) (h : RunsTo m s t) (hk : m + k ≤ n) : NoPor t k := fun l hl => by
  rw [runsTo_inputAt h]
  exact hp _ (by omega)

/-- A conversion answered later is answered in the part of a run that is left. -/
theorem Answers.rest (ha : Answers s (m + k) d v) (h : RunsTo m s t) : Answers t k d v := by
  obtain ⟨hd, hwait, hdone, hdata⟩ := ha
  refine ⟨hd, fun l hl => ?_, ?_, ?_⟩
  · rw [runsTo_inputAt h, ← Nat.add_assoc]
    exact hwait l hl
  · rw [runsTo_inputAt h, ← Nat.add_assoc]
    exact hdone
  · rw [State.adcDataAt, runsTo_inputAt h, runsTo_cfg h, ← Nat.add_assoc]
    exact hdata

/-! ### Waits and busy-waits that stay -/

/-- A wait counts TIMER down, period by period, with every other register held (R87). -/
theorem wait_run (w : IsWait i j) (hi : s.current = .ok i) (hk : k ≤ s.timer) (hp : NoPor s k) :
    ∃ t, RunsTo k s t ∧ t.regs = s.regs.withTimer (s.timer - k) := by
  induction k with
  | zero => exact ⟨s, runsTo_zero s, rfl⟩
  | succ k ih =>
    obtain ⟨t, hrun, hregs⟩ := ih (Nat.le_of_succ_le hk) fun l hl => hp l (Nat.lt_succ_of_lt hl)
    have htimer : t.timer = s.timer - k := State.read_of_regs State.timer hregs
    have hti : t.current = .ok i := (State.read_of_regs State.current hregs).trans hi
    have hpor : t.input.por = false := by
      rw [State.input_por, runsTo_inputAt hrun]
      exact hp k (Nat.lt_succ_self k)
    refine ⟨_, runsTo_snoc hrun (step_of_exec hpor hti (w.exec_stays (by omega))), ?_⟩
    calc (t.closePeriod t.countDown).regs = t.regs.countDown := rfl
      _ = s.regs.withTimer (s.timer - k - 1) := by rw [hregs]; rfl

/-- A busy-wait without an answer changes no register, and keeps a conversion in flight (R144). -/
theorem hang_run {capture : State → Nat → State} (w : IsBusyWait i j capture) (hi : s.current = .ok i)
    (hq : ∀ l, l < n → (s.inputAt l).por = false ∧ (s.inputAt l).adcDone = false) :
    ∃ t, RunsTo n s t ∧ t.regs = s.regs ∧ (s.adc.inFlight = true → t.adc.inFlight = true) := by
  induction n with
  | zero => exact ⟨s, runsTo_zero s, rfl, id⟩
  | succ n ih =>
    obtain ⟨t, hrun, hregs, hflight⟩ := ih fun l hl => hq l (Nat.lt_succ_of_lt hl)
    have hti : t.current = .ok i := (State.read_of_regs State.current hregs).trans hi
    obtain ⟨hpor, hnone⟩ := hq n (Nat.lt_succ_self n)
    rw [← Nat.add_zero n, ← runsTo_inputAt hrun] at hpor hnone
    have hd : t.input.adcDone = false := State.input_not_done hnone
    refine ⟨_, runsTo_snoc hrun (w.step_stays hti hpor hd), hregs, fun h => ?_⟩
    rw [State.closePeriod_adc, (State.adcStart_eq hti).trans w.noStart, Adc.edge_inFlight, hflight h, hd]
    rfl

/-! ### Stretches -/

/-- For `n` periods from `s` nothing but TIMER changes in the core, and then the state is `t`, with the registers of `r`. -/
structure Stretch (n : Nat) (s t r : State) : Prop where
  run  : RunsTo n s t
  held : ∀ k u, k < n → RunsTo k s u → ∃ x, u.regs = s.regs.withTimer x
  ends : t.regs = r

/-- A period of a run that begins with a stretch lies in the stretch, with its registers, or after it. -/
theorem Stretch.at {q : State} (h : Stretch n s t r) (hs : s.regs = q) (hu : RunsTo k s u) :
    (k < n ∧ ∃ x, u.regs = q.withTimer x) ∨ (n ≤ k ∧ RunsTo (k - n) t u) := by
  obtain hk | hk := Nat.lt_or_ge k n
  · exact .inl ⟨hk, hs ▸ h.held k u hk hu⟩
  · exact .inr ⟨hk, runsTo_rest h.run hk hu⟩

/-- The period a stretch ends in. -/
theorem Stretch.at_end (h : Stretch n s t r) (hu : RunsTo k t u) (hk : k = 0) : u.regs = r := by
  subst hk
  exact runsTo_zero_iff.mp hu ▸ h.ends

/-- A micro-operation of one period. -/
theorem stretch_one (hi : s.current = .ok i) (hp : s.input.por = false) (he : exec i s = .next u) :
    Stretch 1 s (s.closePeriod u) u.regs where
  run := runsTo_one (step_of_exec hp hi he)
  held k x hk hx := by
    obtain rfl := Nat.lt_one_iff.mp hk
    obtain rfl := runsTo_zero_iff.mp hx
    exact ⟨s.timer, rfl⟩
  ends := rfl

/-- A wait loaded with `n - 1` lasts `n` periods and leaves TIMER 0 (R87). -/
theorem stretch_wait (w : IsWait i j) (hi : s.current = .ok i) (hn : 1 ≤ n) (ht : s.timer = n - 1) (hp : NoPor s n) :
    ∃ t, Stretch n s t ((s.regs.withTimer 0).goto j) := by
  obtain ⟨n, rfl⟩ := Nat.exists_eq_add_of_le' hn
  have counts {k : Nat} (hk : k ≤ n) := wait_run w hi (k := k) (by omega) fun l hl => hp l (by omega)
  obtain ⟨t, hrun, hregs⟩ := counts le_rfl
  have htimer : t.timer = s.timer - n := State.read_of_regs State.timer hregs
  have hti : t.current = .ok i := (State.read_of_regs State.current hregs).trans hi
  have hpor : t.input.por = false := by
    rw [State.input_por, runsTo_inputAt hrun]
    exact hp n (Nat.lt_succ_self n)
  refine ⟨_, runsTo_snoc hrun (step_of_exec hpor hti (w.exec_leaves (by omega))), fun k u hk hu => ?held, ?ends⟩
  case held =>
    obtain ⟨x, hx, hxregs⟩ := counts (Nat.le_of_lt_succ hk)
    obtain rfl := runsTo_unique hx hu
    exact ⟨_, hxregs⟩
  case ends =>
    calc (t.closePeriod (t.goto j)).regs = t.regs.goto j := rfl
      _ = (s.regs.withTimer 0).goto j := by rw [hregs, ht, Nat.add_sub_cancel, Nat.sub_self]

/-- A busy-wait for a conversion in flight that is answered with `v` after `d` periods (R95, R104). -/
theorem stretch_busyWait {capture : State → Nat → State} (w : IsBusyWait i j capture)
    (hcapture : ∀ (x : State) (y : Nat), (capture x y).regs = capture x.regs y) (hi : s.current = .ok i)
    (hflight : s.adc.inFlight = true) (hp : NoPor s d) (ha : Answers s 0 d v) :
    ∃ t, Stretch d s t ((capture s.regs v).goto j) := by
  obtain ⟨hd, hwait, hdone, hdata⟩ := ha
  simp only [Nat.zero_add] at hwait hdone hdata
  obtain ⟨d, rfl⟩ := Nat.exists_eq_add_of_le' hd
  simp only [Nat.add_sub_cancel] at hwait hdone hdata
  have hangs {k : Nat} (hk : k ≤ d) := hang_run w hi (n := k) fun l hl => ⟨hp l (by omega), hwait l (by omega)⟩
  obtain ⟨t, hrun, hregs, hkeeps⟩ := hangs le_rfl
  have hti : t.current = .ok i := (State.read_of_regs State.current hregs).trans hi
  have hin : t.input = s.inputAt d := by rw [State.input_of_inFlight (hkeeps hflight), runsTo_inputAt hrun, Nat.add_zero]
  have hval : t.adcData = v := by rw [State.adcData, hin, runsTo_cfg hrun, ← hdata, State.adcDataAt]
  have hpor : t.input.por = false := hin ▸ hp d (Nat.lt_succ_self d)
  refine ⟨_, runsTo_snoc hrun (w.step_leaves hti hpor (hin ▸ hdone)), fun k u hk hu => ?held, ?ends⟩
  case held =>
    obtain ⟨x, hx, hxregs, -⟩ := hangs (Nat.le_of_lt_succ hk)
    obtain rfl := runsTo_unique hx hu
    exact ⟨s.timer, hxregs⟩
  case ends =>
    calc (t.closePeriod ((capture t t.adcData).goto j)).regs = (capture t t.adcData).regs.goto j := rfl
      _ = (capture s.regs v).goto j := by rw [hcapture, hregs, hval]

end Sys2Proof.Safety

open Sys2Proof Sys2Proof.Machine Sys2Proof.Safety

/-- Settles O30: a wait counts TIMER down, and a last period with TIMER 0 goes to its successor. -/
theorem waitCountsDownToZero : Obligations.WaitCountsDownToZero := by
  intro s i hi hwait hp
  have w : IsWait i (successor true false i) := by
    obtain rfl | rfl | ⟨b, rfl | rfl⟩ := hwait
    · exact isWait_wrp
    · exact isWait_wrs
    · exact isWait_wsa b
    · exact nextBand_stba_selp b ▸ isWait_wsd b
  refine ⟨fun k hk => ?counts, ?leaves⟩
  case counts =>
    obtain ⟨t, hrun, hregs⟩ := wait_run w hi hk fun l hl => hp l (by omega)
    have same := sameRegisters_of_regs hregs
    exact ⟨t, hrun, same⟩
  case leaves =>
    obtain ⟨t, hstretch⟩ := stretch_wait w hi (Nat.le_add_left 1 s.timer) rfl hp
    obtain ⟨-, -, htimer, hrstl, hstbl, hchsel, hdata⟩ := sameRegisters_of_regs hstretch.ends
    exact ⟨t, hstretch.run, State.current_of_regs hstretch.ends w.wellFormed, htimer, hdata, hrstl, hstbl, hchsel⟩

/-- Settles O31: a busy-wait without an answer holds every register, so every pin; an answer or `POR` ends it. -/
theorem hangHoldsEverything : Obligations.HangHoldsEverything := by
  intro s n i hi hbusy hq
  obtain ⟨j, capture, w⟩ := exists_isBusyWait hbusy
  obtain ⟨t, hrun, hregs, -⟩ := hang_run w hi hq
  have hti : t.current = .ok i := (State.read_of_regs State.current hregs).trans hi
  have same : SameRegisters s.regs t := sameRegisters_of_regs hregs
  refine ⟨t, hrun, same, fun level => (State.read_of_regs (State.pinsAt level) hregs :),
    (State.adcStart_eq hti).trans w.noStart, fun hl => ?lines, fun hp hd => ?answered, fun hp => ?por⟩
  case lines =>
    have hch : t.adcCh = potSelected i := (State.read_of_regs State.chsel hregs).trans (hl.chsel_eq hi)
    have hst : t.stbl = strobeAsserted i := (State.read_of_regs State.stbl hregs).trans (hl.stbl_eq hi)
    rw [State.azStrobe, hch, hst]
    obtain ⟨b, rfl⟩ | rfl := hbusy
    · exact ⟨rfl, rfl⟩
    · exact ⟨rfl, rfl⟩
  case answered =>
    obtain ⟨k, u, e, hs, hk⟩ := step_answers hp hti
    refine ⟨_, hs, hk.trans (congrArg Except.ok ?_)⟩
    rw [e.eq_successor, hd]
    obtain ⟨b, rfl⟩ | rfl := hbusy
    · rfl
    · rfl
  case por =>
    exact ⟨_, step_of_por hp, (State.closePeriod_current _ _).trans t.powerOnReset_current, rfl, rfl⟩
end

section
/-! The source's function contracts as runs (44_contracts.md R134, R135, R137): each is a row of stretches, with `s.regs = r.goto i`
for a state that has the registers of `r` and `i` current. -/

namespace Sys2Proof.Machine

theorem State.regs_eq_goto {s : State} {i : Instr} (hi : s.current = .ok i) : s.regs = s.regs.goto i := by
  obtain ⟨hp, hb⟩ := State.fields_of_current hi
  simp [State.regs, State.goto, hp, hb]

end Sys2Proof.Machine

namespace Sys2Proof.Safety

open Sys2Proof.Machine

variable {i j k : Instr} {n d v : Nat} {s r : State} {c : Band}

/-- Neither way on from a band's read drives a start pulse at once. -/
theorem nextBand_noStart (c : Band) :
    (phaseCode (nextBand c .stba .selp) == 6 || phaseCode (nextBand c .stba .selp) == 11) = false := by
  revert c; decide

theorem sameData_refl (s : State) : SameData s s := ⟨rfl, rfl, rfl, rfl, rfl, rfl, rfl, rfl⟩

/-- `POR` is 0 where a run has come to. -/
theorem NoPor.here {m : Nat} {t : State} (hp : NoPor s n) (h : RunsTo m s t) (hm : m < n) : t.input.por = false := by
  rw [State.input_por, runsTo_inputAt h]
  exact hp m hm

/-- A micro-operation of one period that turns the registers as `f` says. -/
theorem stretch_exec (f : State → State) (hr : s.regs = r.goto i) (hi : i.wellFormed = true) (hp : s.input.por = false)
    (he : exec i s = .next (f s)) (hf : (f s).regs = f s.regs) : ∃ t, Stretch 1 s t (f (r.goto i)) :=
  ⟨_, hr ▸ hf ▸ stretch_one (State.current_of_regs hr hi) hp he⟩

/-- A wait from known registers. -/
theorem stretch_wait_of_regs (w : IsWait i j) (hr : s.regs = r.goto i) (hi : i.wellFormed = true) (hn : 1 ≤ n)
    (ht : r.timer = n - 1) (hp : NoPor s n) : ∃ t, Stretch n s t ((r.withTimer 0).goto j) := by
  have htimer := State.read_of_regs State.timer hr
  obtain ⟨t, st⟩ := stretch_wait w (State.current_of_regs hr hi) hn (htimer.trans ht) hp
  rw [hr] at st
  exact ⟨t, st⟩

/-- A start of a conversion and the busy-wait for its answer, from known registers: CONV and SAMP, or CONVP and SAMPP (R83). -/
theorem stretch_sample {capture : State → Nat → State} (hr : s.regs = r.goto i) (hi : i.wellFormed = true)
    (hs : (phaseCode i == 6 || phaseCode i == 11) = true) (he : exec i s = .next (s.goto j)) (hj : j.wellFormed = true)
    (w : IsBusyWait j k capture) (hcapture : ∀ (x : State) (y : Nat), (capture x y).regs = capture x.regs y)
    (hp : NoPor s (1 + d)) (ha : Answers s 1 d v) :
    ∃ a t, Stretch 1 s a (r.goto j) ∧ Stretch d a t ((capture (r.goto j) v).goto k) := by
  have hcur := State.current_of_regs hr hi
  have sa := stretch_one hcur (hp 0 (by omega)) he
  have ends : (s.goto j).regs = r.goto j := congrArg (State.goto · j) hr
  have hflight : (s.closePeriod (s.goto j)).adc.inFlight = true := by
    rw [State.closePeriod_adc_of_start ((State.adcStart_eq hcur).trans hs)]
    rfl
  obtain ⟨t, st⟩ := stretch_busyWait w hcapture (State.current_of_regs (sa.ends.trans ends) hj) hflight
    (hp.rest sa.run le_rfl) (ha.rest sa.run)
  rw [sa.ends, ends] at st
  exact ⟨_, t, ends ▸ sa, st⟩

/-- The four stretches of `reset_cycle()` (R134). -/
theorem resetCycle_stretches (hRp : 1 ≤ r.cfg.nRp) (hRs : 1 ≤ r.cfg.nRs) (hr : s.regs = r.goto .rsta)
    (hp : NoPor s (resetPeriods r.cfg)) :
    ∃ a b e t, Stretch 1 s a (((r.setRstl true).loadTimer r.cfg.nRp).goto .wrp) ∧
      Stretch r.cfg.nRp a b (((r.setRstl true).withTimer 0).goto .rstd) ∧
      Stretch 1 b e (((r.setRstl false).loadTimer r.cfg.nRs).goto .wrs) ∧
      Stretch r.cfg.nRs e t (((r.setRstl false).withTimer 0).goto (.stba 0)) := by
  unfold resetPeriods at hp
  obtain ⟨a, sa⟩ := stretch_exec (fun x => ((x.setRstl true).loadTimer x.cfg.nRp).goto .wrp) hr rfl (hp 0 (by omega)) rfl rfl
  have ra := sa.run
  obtain ⟨b, sb⟩ := stretch_wait_of_regs isWait_wrp sa.ends rfl hRp rfl (hp.rest ra (by omega))
  have rb := runsTo_add ra sb.run
  obtain ⟨e, se⟩ := stretch_exec (fun x => ((x.setRstl false).loadTimer x.cfg.nRs).goto .wrs) sb.ends rfl
    (hp.here rb (by omega)) rfl rfl
  have re := runsTo_add rb se.run
  obtain ⟨t, st⟩ := stretch_wait_of_regs isWait_wrs se.ends rfl hRs rfl (hp.rest re (by omega))
  exact ⟨a, b, e, t, sa, sb, se, st⟩

/-- The six stretches of the read of band `c`, answered with `v` after `d` periods (R135). -/
theorem bandRead_stretches (hSt : 1 ≤ r.cfg.nSt) (hr : s.regs = r.goto (.stba (bandBits c)))
    (hp : NoPor s (bandPeriods r.cfg d)) (ha : Answers s (r.cfg.nSt + 2) d v) :
    ∃ a b e f g t, Stretch 1 s a (((r.setStbl true).loadTimer r.cfg.nSt).goto (.wsa (bandBits c))) ∧
      Stretch r.cfg.nSt a b (((r.setStbl true).withTimer 0).goto (.conv (bandBits c))) ∧
      Stretch 1 b e (((r.setStbl true).withTimer 0).goto (.samp (bandBits c))) ∧
      Stretch d e f ((((r.setStbl true).withTimer 0).setRaw c v).goto (.stbd (bandBits c))) ∧
      Stretch 1 f g ((((r.setStbl false).setRaw c v).loadTimer r.cfg.nSt).goto (.wsd (bandBits c))) ∧
      Stretch r.cfg.nSt g t ((((r.setStbl false).setRaw c v).withTimer 0).goto (nextBand c .stba .selp)) := by
  have legal := legal_bandBits c
  have hshift : r.cfg.nSt + 2 = 1 + r.cfg.nSt + 1 := by omega
  rw [hshift] at ha
  unfold bandPeriods at hp
  obtain ⟨a, sa⟩ := stretch_exec (fun x => ((x.setStbl true).loadTimer x.cfg.nSt).goto (.wsa (bandBits c))) hr legal
    (hp 0 (by omega)) (exec_stba c s) rfl
  have ra := sa.run
  obtain ⟨b, sb⟩ := stretch_wait_of_regs (isWait_wsa c) sa.ends legal hSt rfl (hp.rest ra (by omega))
  have rb := runsTo_add ra sb.run
  obtain ⟨e, f, se, sf⟩ := stretch_sample sb.ends legal rfl (exec_conv c b) legal (isBusyWait_samp c) (fun _ _ => rfl)
    (hp.rest rb (by omega)) (ha.rest rb)
  have rf := runsTo_add (runsTo_add rb se.run) sf.run
  obtain ⟨g, sg⟩ := stretch_exec (fun x => ((x.setStbl false).loadTimer x.cfg.nSt).goto (.wsd (bandBits c))) sf.ends legal
    (hp.here rf (by omega)) (exec_stbd c f) rfl
  have rg := runsTo_add rf sg.run
  obtain ⟨t, st⟩ := stretch_wait_of_regs (isWait_wsd c) sg.ends legal hSt rfl (hp.rest rg (by omega))
  exact ⟨a, b, e, f, g, t, sa, sb, se, sf, sg, st⟩

/-- The five stretches of `rescale()`, answered with `v` after `d` periods (R137). -/
theorem rescale_stretches (hr : s.regs = r.goto .selp) (hp : NoPor s (4 + d)) (ha : Answers s 2 d v) :
    ∃ a b e f t, Stretch 1 s a ((r.setChsel true).goto .convp) ∧ Stretch 1 a b ((r.setChsel true).goto .sampp) ∧
      Stretch d b e (((r.setChsel true).setPotraw v).goto .selb) ∧
      Stretch 1 e f (((r.setChsel false).setPotraw v).goto .scale) ∧
      Stretch 1 f t ((((r.setChsel false).setPotraw v).setPotBnd (scalePot v) (bounds v)).goto (.push 0)) := by
  obtain ⟨a, sa⟩ := stretch_exec (fun x => (x.setChsel true).goto .convp) hr rfl (hp 0 (by omega)) rfl rfl
  have ra := sa.run
  obtain ⟨b, e, sb, se⟩ := stretch_sample sa.ends rfl rfl rfl rfl isBusyWait_sampp (fun _ _ => rfl)
    (hp.rest ra (by omega)) (ha.rest (k := 1) ra)
  have re := runsTo_add (runsTo_add ra sb.run) se.run
  obtain ⟨f, sf⟩ := stretch_exec (fun x => (x.setChsel false).goto .scale) se.ends rfl (hp.here re (by omega)) rfl rfl
  have rf := runsTo_add re sf.run
  obtain ⟨t, st⟩ := stretch_exec
    (fun x => (x.setPotBnd (scalePot x.potraw) (boundaries (scalePot x.potraw))).goto (.push 0)) sf.ends rfl
    (hp.here rf (by omega)) rfl rfl
  exact ⟨a, b, e, f, t, sa, sb, se, sf, st⟩

end Sys2Proof.Safety

open Sys2Proof Sys2Proof.Machine Sys2Proof.Safety

/-- Settles O54: RSTA, WRP, RSTD and WRS in a row; the reset line is asserted where RSTA's write holds, and no data register is
written. -/
theorem resetCycleMacro : Obligations.ResetCycleMacro := by
  intro s hv hi hrstl hp
  obtain ⟨hRp, -⟩ := hv.resetPulse
  obtain ⟨hRs, -⟩ := hv.resetSettle
  obtain ⟨a, b, e, t, sa, sb, se, st⟩ := resetCycle_stretches (r := s.regs) hRp hRs (State.regs_eq_goto hi) hp
  simp only [State.regs_cfg] at sa sb se st
  have hn : s.cfg.nRp + s.cfg.nRs + 2 = 1 + s.cfg.nRp + 1 + s.cfg.nRs := by omega
  refine ⟨⟨t, ?run, State.current_of_regs st.ends rfl, (State.read_of_regs State.timer st.ends :)⟩, fun k u hk hu => ?along⟩
  case run => exact hn ▸ runsTo_add (runsTo_add (runsTo_add sa.run sb.run) se.run) st.run
  case along =>
    clear hv
    show (u.regs.rstl = true ↔ 1 ≤ k ∧ k ≤ s.cfg.nRp + 1) ∧ SameData s u.regs ∧ u.regs.stbl = s.stbl ∧
      u.regs.chsel = s.chsel
    obtain ⟨h, x, hx⟩ | ⟨h1, hu⟩ := sa.at rfl hu
    · exact hx ▸ ⟨iff_of_false (Bool.eq_false_iff.mp hrstl) (by omega), sameData_refl s, rfl, rfl⟩
    obtain ⟨h, x, hx⟩ | ⟨h2, hu⟩ := sb.at sa.ends hu
    · exact hx ▸ ⟨iff_of_true rfl (by omega), sameData_refl s, rfl, rfl⟩
    obtain ⟨h, x, hx⟩ | ⟨h3, hu⟩ := se.at sb.ends hu
    · exact hx ▸ ⟨iff_of_true rfl (by omega), sameData_refl s, rfl, rfl⟩
    obtain ⟨h, x, hx⟩ | ⟨h4, hu⟩ := st.at se.ends hu
    · exact hx ▸ ⟨iff_of_false Bool.false_ne_true (by omega), sameData_refl s, rfl, rfl⟩
    · exact st.at_end hu (by omega) ▸ ⟨iff_of_false Bool.false_ne_true (by omega), sameData_refl s, rfl, rfl⟩

/-- Settles O55: STBA, WSA, CONV, SAMP, STBD and WSD of one band in a row; the strobe line is asserted where STBA's write holds, and
the start pulse is CONV's. -/
theorem bandReadMacro : Obligations.BandReadMacro := by
  intro s c d v hv hi hstbl hp ha
  obtain ⟨hSt, -⟩ := hv.strobePhase
  obtain ⟨a, b, e, f, g, t, sa, sb, se, sf, sg, st⟩ :=
    bandRead_stretches (r := s.regs) hSt (State.regs_eq_goto hi) hp ha
  simp only [State.regs_cfg] at sa sb se sf sg st
  obtain ⟨hd, -⟩ := ha
  have hn : 2 * s.cfg.nSt + 3 + d = 1 + s.cfg.nSt + 1 + d + 1 + s.cfg.nSt := by omega
  refine ⟨⟨t, ?run, State.current_of_regs st.ends (isWait_wsd c).wellFormed,
    (State.read_of_regs State.timer st.ends :), ?data⟩, fun k u hk hu => ?along⟩
  case run =>
    exact hn ▸ runsTo_add (runsTo_add (runsTo_add (runsTo_add (runsTo_add sa.run sb.run) se.run) sf.run) sg.run) st.run
  case data =>
    show SameData _ t.regs
    exact st.ends ▸ sameData_refl (s.setRaw c v)
  case along =>
    clear hv
    show (u.regs.stbl = true ↔ 1 ≤ k ∧ k ≤ s.cfg.nSt + 2 + d) ∧ (u.regs.adcStart = true ↔ k = s.cfg.nSt + 1) ∧
      u.regs.rstl = s.rstl ∧ u.regs.chsel = s.chsel
    obtain ⟨h, x, hx⟩ | ⟨h1, hu⟩ := sa.at (State.regs_eq_goto hi) hu
    · exact hx ▸ ⟨iff_of_false (Bool.eq_false_iff.mp hstbl) (by omega), iff_of_false nofun (by omega), rfl, rfl⟩
    obtain ⟨h, x, hx⟩ | ⟨h2, hu⟩ := sb.at sa.ends hu
    · exact hx ▸ ⟨iff_of_true rfl (by omega), iff_of_false nofun (by omega), rfl, rfl⟩
    obtain ⟨h, x, hx⟩ | ⟨h3, hu⟩ := se.at sb.ends hu
    · exact hx ▸ ⟨iff_of_true rfl (by omega), iff_of_true rfl (by omega), rfl, rfl⟩
    obtain ⟨h, x, hx⟩ | ⟨h4, hu⟩ := sf.at se.ends hu
    · exact hx ▸ ⟨iff_of_true rfl (by omega), iff_of_false nofun (by omega), rfl, rfl⟩
    obtain ⟨h, x, hx⟩ | ⟨h5, hu⟩ := sg.at sf.ends hu
    · exact hx ▸ ⟨iff_of_true rfl (by omega), iff_of_false nofun (by omega), rfl, rfl⟩
    obtain ⟨h, x, hx⟩ | ⟨h6, hu⟩ := st.at sg.ends hu
    · exact hx ▸ ⟨iff_of_false nofun (by omega), iff_of_false nofun (by omega), rfl, rfl⟩
    · exact st.at_end hu (by omega) ▸
        ⟨iff_of_false nofun (by omega), iff_of_false (ne_true_of_eq_false (nextBand_noStart c)) (by omega), rfl, rfl⟩

/-- Settles O56: SELP, CONVP, SAMPP, SELB and SCALE in a row; the potentiometer channel is selected where SELP's write holds,
and the start pulse is CONVP's. -/
theorem rescaleMacro : Obligations.RescaleMacro := by
  intro s d v hi hchsel hp ha
  obtain ⟨a, b, e, f, t, sa, sb, se, sf, st⟩ := rescale_stretches (r := s.regs) (State.regs_eq_goto hi) hp ha
  obtain ⟨hd, -⟩ := ha
  have hn : 4 + d = 1 + 1 + d + 1 + 1 := by omega
  refine ⟨⟨t, ?run, State.current_of_regs st.ends rfl, ?data, (State.read_of_regs State.timer st.ends :)⟩,
    fun k u hk hu => ?along⟩
  case run => exact hn ▸ runsTo_add (runsTo_add (runsTo_add (runsTo_add sa.run sb.run) se.run) sf.run) st.run
  case data =>
    show SameData _ t.regs
    exact st.ends ▸ scalePot_eq v ▸ sameData_refl ((s.setPotraw v).setPotBnd (scalePot v) (bounds v))
  case along =>
    show (u.regs.chsel = true ↔ 1 ≤ k ∧ k ≤ 2 + d) ∧ (u.regs.adcStart = true ↔ k = 1) ∧ u.regs.rstl = s.rstl ∧
      u.regs.stbl = s.stbl
    obtain ⟨h, x, hx⟩ | ⟨h1, hu⟩ := sa.at (State.regs_eq_goto hi) hu
    · exact hx ▸ ⟨iff_of_false (Bool.eq_false_iff.mp hchsel) (by omega), iff_of_false nofun (by omega), rfl, rfl⟩
    obtain ⟨h, x, hx⟩ | ⟨h2, hu⟩ := sb.at sa.ends hu
    · exact hx ▸ ⟨iff_of_true rfl (by omega), iff_of_true rfl (by omega), rfl, rfl⟩
    obtain ⟨h, x, hx⟩ | ⟨h3, hu⟩ := se.at sb.ends hu
    · exact hx ▸ ⟨iff_of_true rfl (by omega), iff_of_false nofun (by omega), rfl, rfl⟩
    obtain ⟨h, x, hx⟩ | ⟨h4, hu⟩ := sf.at se.ends hu
    · exact hx ▸ ⟨iff_of_true rfl (by omega), iff_of_false nofun (by omega), rfl, rfl⟩
    obtain ⟨h, x, hx⟩ | ⟨h5, hu⟩ := st.at sf.ends hu
    · exact hx ▸ ⟨iff_of_false nofun (by omega), iff_of_false nofun (by omega), rfl, rfl⟩
    · exact st.at_end hu (by omega) ▸ ⟨iff_of_false nofun (by omega), iff_of_false nofun (by omega), rfl, rfl⟩
end

section
/-! One cycle of the control loop and runs of cycles from reset (44_contracts.md R140 to R142, 70_reset_and_hazards.md R178). -/

namespace Sys2Proof.Machine

/-- The entries of `new` for the first `b` bands and those of `old` for the others: an array in the middle of a band loop. -/
def firstBands {α : Type} (b : Nat) (new old : Vector α 7) : Vector α 7 :=
  Vector.ofFn fun c => if c.val < b then new[c] else old[c]

section firstBands

variable {α : Type} (new old : Vector α 7)

@[simp] theorem firstBands_zero : firstBands 0 new old = old := by
  ext c hc
  simp [firstBands]

@[simp] theorem firstBands_seven : firstBands 7 new old = new := by
  ext c hc
  simp [firstBands]

/-- The loop has not come to band `c` yet. -/
@[simp] theorem firstBands_get (c : Band) : (firstBands c.val new old)[c] = old[c] := by
  simp [firstBands]

/-- The loop goes on by one band. -/
theorem firstBands_set (c : Band) : (firstBands c.val new old).set c new[c] = firstBands (c.val + 1) new old := by
  ext k hk
  obtain rfl | hne := eq_or_ne c.val k
  · simp [firstBands]
  · have hlt : k < c.val + 1 ↔ k < c.val := by omega
    simp only [firstBands, Vector.getElem_set_ne _ _ hne, Vector.getElem_ofFn, hlt]

end firstBands

/-- What PUSH c does to the registers but for SEQ (R110). -/
def State.pushBand (s : State) (c : Band) : State :=
  s.setHistLevel c (s.hist[c].push s.raw[c]) (s.hist[c].push s.raw[c]).avg

/-- What MAP c does to the registers but for SEQ (R127). -/
def State.mapBand (s : State) (c : Band) : State :=
  s.setOutpat c (mapLevel s.cfg s.level[c] s.bnd s.cfg.bandCfg[c])

/-- The micro-operation at the head of a band loop after `b` bands. -/
def loopHead (b : Nat) (head : BandField → Instr) (after : Instr) : Instr :=
  if b < 7 then head (BitVec.ofNat 3 b) else after

theorem loopHead_val (c : Band) (head : BandField → Instr) (after : Instr) :
    loopHead c.val head after = head (bandBits c) := if_pos c.isLt

theorem nextBand_eq_loopHead (c : Band) (head : BandField → Instr) (after : Instr) :
    nextBand c head after = loopHead (c.val + 1) head after := by
  obtain h | rfl := band_lt_or_six c
  · rw [nextBand_lt h, loopHead, if_pos (Nat.succ_lt_succ h)]
  · rfl

theorem bandStart_monotone (p : Params) (d : Nat → Nat) : Monotone (bandStart p d) :=
  monotone_nat_of_le_succ fun _ => Nat.le_add_right _ _

/-- The cycle is its reads, `rescale()`, seven pushes and maps, and the render (R178). -/
theorem cyclePeriods_eq (p : Params) (d : Nat → Nat) (dp : Nat) :
    cyclePeriods p d dp = bandStart p d 7 + (4 + dp) + 2 * 7 + 1 := by
  simp only [cyclePeriods, bandStart, bandPeriods, resetPeriods]
  omega

end Sys2Proof.Machine

namespace Sys2Proof.Safety

open Sys2Proof.Machine

variable {b d m n x : Nat} {s t u q r : State} {c : Band}

/-- A run of `n` periods that ends with the registers of `r` and shows the same buses in all of them. -/
structure Leads (n : Nat) (s t r : State) : Prop where
  run  : RunsTo n s t
  port : ∀ k u, k < n → RunsTo k s u → u.port = s.port
  ends : t.regs = r

theorem Stretch.leads (h : Stretch n s t r) : Leads n s t r where
  run := h.run
  port k u hk hu := by
    obtain ⟨y, hy⟩ := h.held k u hk hu
    exact (State.read_of_regs State.port hy :)
  ends := h.ends

/-- Two runs end to end show the same buses when the first leaves them alone. -/
theorem Leads.trans (h : Leads m s t r) (hport : r.port = s.port) (h' : Leads n t u q) : Leads (m + n) s u q where
  run := runsTo_add h.run h'.run
  port k v hk hv := by
    obtain hlt | hge := Nat.lt_or_ge k m
    · exact h.port k v hlt hv
    · have htport := State.read_of_regs State.port h.ends
      exact (h'.port (k - m) v (by omega) (runsTo_rest h.run hge hv)).trans (htport.trans hport)
  ends := h'.ends

/-- `reset_cycle()` as one run (R134). -/
theorem resetCycle_leads (hv : r.cfg.Valid) (hr : s.regs = r.goto .rsta) (hp : NoPor s (resetPeriods r.cfg)) :
    ∃ t, Leads (resetPeriods r.cfg) s t (((r.setRstl false).withTimer 0).goto (.stba 0)) := by
  have hport := (State.read_of_regs State.port hr).symm
  obtain ⟨a, b, e, t, sa, sb, se, st⟩ := resetCycle_stretches hv.resetPulse.left hv.resetSettle.left hr hp
  have hn : resetPeriods r.cfg = 1 + r.cfg.nRp + 1 + r.cfg.nRs := by unfold resetPeriods; omega
  exact ⟨t, hn ▸ ((sa.leads.trans hport sb.leads).trans hport se.leads).trans hport st.leads⟩

/-- The read of one band as one run (R135). -/
theorem bandRead_leads (hv : r.cfg.Valid) (hr : s.regs = r.goto (.stba (bandBits c))) (hp : NoPor s (bandPeriods r.cfg d))
    (ha : Answers s (r.cfg.nSt + 2) d x) :
    ∃ t, Leads (bandPeriods r.cfg d) s t
      ((((r.setStbl false).setRaw c x).withTimer 0).goto (nextBand c .stba .selp)) := by
  have hport := (State.read_of_regs State.port hr).symm
  obtain ⟨a, b, e, f, g, t, sa, sb, se, sf, sg, st⟩ := bandRead_stretches hv.strobePhase.left hr hp ha
  have hn : bandPeriods r.cfg d = 1 + r.cfg.nSt + 1 + d + 1 + r.cfg.nSt := by unfold bandPeriods; omega
  exact ⟨t, hn ▸ ((((sa.leads.trans hport sb.leads).trans hport se.leads).trans hport sf.leads).trans hport
    sg.leads).trans hport st.leads⟩

/-- `rescale()` as one run (R137). -/
theorem rescale_leads (hr : s.regs = r.goto .selp) (hp : NoPor s (4 + d)) (ha : Answers s 2 d x) :
    ∃ t, Leads (4 + d) s t ((((r.setChsel false).setPotraw x).setPotBnd (scalePot x) (bounds x)).goto (.push 0)) := by
  have hport := (State.read_of_regs State.port hr).symm
  obtain ⟨a, b, e, f, t, sa, sb, se, sf, st⟩ := rescale_stretches hr hp ha
  have hn : 4 + d = 1 + 1 + d + 1 + 1 := by omega
  exact ⟨t, hn ▸ (((sa.leads.trans hport sb.leads).trans hport se.leads).trans hport sf.leads).trans hport st.leads⟩

/-- The registers after `reset_cycle()` and the reads of the first `b` bands, with the samples `v` (R134, R135). -/
def afterReads (r : State) (v : Vector Nat 7) (b : Nat) : State :=
  { r with rstl := false, stbl := b == 0 && r.stbl, timer := 0, raw := firstBands b v r.raw }

/-- The read of band `c` takes the array one band further. -/
theorem afterReads_succ (r : State) (v : Vector Nat 7) (c : Band) :
    (((afterReads r v c.val).setStbl false).setRaw c v[c]).withTimer 0 = afterReads r v (c.val + 1) := by
  rw [afterReads, afterReads, ← firstBands_set]
  rfl

/-- The band reads follow one another from RSTA on (R135). -/
theorem reads_lead {d : Nat → Nat} {v : Vector Nat 7} (hv : r.cfg.Valid) (hr : s.regs = r.goto .rsta)
    (hp : NoPor s (bandStart r.cfg d 7))
    (ha : ∀ c : Band, Answers s (bandStart r.cfg d c.val + (r.cfg.nSt + 2)) (d c.val) v[c]) (hb : b ≤ 7) :
    ∃ t, Leads (bandStart r.cfg d b) s t ((afterReads r v b).goto (loopHead b .stba .selp)) := by
  have hport := (State.read_of_regs State.port hr).symm
  induction b with
  | zero =>
    obtain ⟨t, h⟩ := resetCycle_leads hv hr (hp.rest (runsTo_zero s) (by
      rw [Nat.zero_add]
      exact bandStart_monotone r.cfg d (Nat.zero_le 7)))
    refine ⟨t, h.run, h.port, h.ends.trans ?_⟩
    simp [afterReads, State.setRstl, State.withTimer, loopHead]
  | succ b ih =>
    obtain ⟨t, h⟩ := ih (Nat.le_of_succ_le hb)
    let c : Band := ⟨b, hb⟩
    have hhead : loopHead b .stba .selp = .stba (bandBits c) := loopHead_val c _ _
    have hmono := bandStart_monotone r.cfg d hb
    obtain ⟨u, hu⟩ := bandRead_leads (r := afterReads r v b) (d := d b) hv (hhead ▸ h.ends)
      (hp.rest h.run hmono) ((ha c).rest h.run)
    refine ⟨u, (h.trans hport hu).run, (h.trans hport hu).port, hu.ends.trans ?_⟩
    rw [nextBand_eq_loopHead]
    exact congrArg (State.goto · _) (afterReads_succ r v c)

/-- The registers of `r` with the first `b` bands pushed and mapped (R110, R127). -/
def afterMaps (r : State) (b : Nat) : State :=
  { r with
    hist   := firstBands b (cycleHist r.hist r.raw) r.hist
    level  := firstBands b (cycleLevel r.hist r.raw) r.level
    outpat := firstBands b (Vector.ofFn fun c => mapLevel r.cfg (cycleLevel r.hist r.raw)[c] r.bnd r.cfg.bandCfg[c]) r.outpat }

/-- PUSH c and MAP c take the arrays one band further. -/
theorem afterMaps_succ (r : State) (c : Band) : ((afterMaps r c.val).pushBand c).mapBand c = afterMaps r (c.val + 1) := by
  simp only [afterMaps, State.pushBand, State.mapBand, State.setHistLevel, State.setOutpat, firstBands_get, ← firstBands_set]
  simp [cycleHist, cycleLevel]

/-- One PUSH and one MAP as a run of two periods (R110, R127). -/
theorem pushMap_leads (hr : s.regs = r.goto (.push (bandBits c))) (hp : NoPor s 2) :
    ∃ t, Leads 2 s t (((r.pushBand c).mapBand c).goto (nextBand c .push .rend)) := by
  have hport := (State.read_of_regs State.port hr).symm
  obtain ⟨a, sa⟩ := stretch_exec (fun x => (x.pushBand c).goto (.map (bandBits c))) hr (legal_bandBits c)
    (hp 0 (by decide)) (exec_push c s) rfl
  obtain ⟨t, st⟩ := stretch_exec (fun x => (x.mapBand c).goto (nextBand c .push .rend)) sa.ends (legal_bandBits c)
    (hp.here sa.run (by decide)) (exec_map c a) rfl
  exact ⟨t, sa.leads.trans hport st.leads⟩

/-- The pushes and maps follow one another (R127). -/
theorem maps_lead (hr : s.regs = r.goto (.push 0)) (hp : NoPor s (2 * 7)) (hb : b ≤ 7) :
    ∃ t, Leads (2 * b) s t ((afterMaps r b).goto (loopHead b .push .rend)) := by
  have hport := (State.read_of_regs State.port hr).symm
  induction b with
  | zero =>
    refine ⟨s, runsTo_zero s, nofun, hr.trans ?_⟩
    simp [afterMaps, loopHead]
  | succ b ih =>
    obtain ⟨t, h⟩ := ih (Nat.le_of_succ_le hb)
    let c : Band := ⟨b, hb⟩
    have hhead : loopHead b .push .rend = .push (bandBits c) := loopHead_val c _ _
    obtain ⟨u, hu⟩ := pushMap_leads (r := afterMaps r b) (c := c) (hhead ▸ h.ends) (hp.rest h.run (by omega))
    rw [nextBand_eq_loopHead] at hu
    exact ⟨u, afterMaps_succ r c ▸ h.trans hport hu⟩

/-- The registers after a whole cycle with the answers `v` and `x` (R140, R141). -/
def afterCycle (r : State) (v : Vector Nat 7) (x : Nat) : State :=
  { r with
    rstl := false, stbl := false, chsel := false, timer := 0, raw := v, potraw := x, pot := scalePot x, bnd := bounds x
    hist := cycleHist r.hist v, level := cycleLevel r.hist v
    outpat := cyclePorts r.cfg r.hist v x, port := cyclePorts r.cfg r.hist v x }

/-- ONE CYCLE: from RSTA through the reads, `rescale()`, the pushes and maps and REND to RSTA again (R141). -/
theorem cycle_leads {d : Nat → Nat} {dp : Nat} {v : Vector Nat 7} (hv : s.cfg.Valid) (hi : s.current = .ok .rsta)
    (ha : CycleAnswers s 0 d dp v x) : ∃ t, Leads (cyclePeriods s.cfg d dp) s t ((afterCycle s.regs v x).goto .rsta) := by
  obtain ⟨hpor, hbands, hpot⟩ := ha
  simp only [Nat.zero_add] at hpor hbands hpot
  have hp : NoPor s (bandStart s.regs.cfg d 7 + (4 + dp) + 2 * 7 + 1) := cyclePeriods_eq s.cfg d dp ▸ hpor
  obtain ⟨a, ha⟩ := reads_lead (r := s.regs) hv (State.regs_eq_goto hi) (hp.rest (runsTo_zero s) (by omega)) hbands le_rfl
  obtain ⟨b, hb⟩ := rescale_leads ha.ends (hp.rest ha.run (by omega)) (hpot.rest ha.run)
  have hab := ha.trans rfl hb
  obtain ⟨e, he⟩ := maps_lead hb.ends (hp.rest hab.run (by omega)) le_rfl
  have hae := hab.trans rfl he
  obtain ⟨t, st⟩ := stretch_exec (fun x => (x.setPorts x.outpat).goto .rsta) he.ends rfl (hp.here hae.run (by omega)) rfl rfl
  have h := hae.trans rfl st.leads
  rw [← cyclePeriods_eq] at h
  refine ⟨t, h.run, h.port, h.ends.trans ?_⟩
  simp [afterMaps, afterReads, afterCycle, cyclePorts, State.setPorts, State.goto, State.setPotBnd, State.setPotraw,
    State.setChsel]

/-- The answers of a later cycle are those of a cycle that begins where the run has come to. -/
theorem CycleAnswers.rest {d : Nat → Nat} {dp : Nat} {v : Vector Nat 7} (ha : CycleAnswers s n d dp v x)
    (h : RunsTo n s t) : CycleAnswers t 0 d dp v x := by
  obtain ⟨hpor, hbands, hpot⟩ := ha
  have hcfg := runsTo_cfg h
  refine ⟨fun j hj => ?_, fun c => Answers.rest ?_ h, Answers.rest ?_ h⟩
  · rw [runsTo_inputAt h, Nat.zero_add]
    exact hpor j (hcfg ▸ hj)
  · rw [hcfg, Nat.zero_add, Nat.add_assoc, ← Nat.add_assoc n]
    exact hbands c
  · rw [hcfg, Nat.zero_add, ← Nat.add_assoc n]
    exact hpot

/-- CYCLE AFTER CYCLE from dark buses and zero histories (R142). -/
theorem cycles_run {d : Nat → Nat → Nat} {dp r : Nat → Nat} {v : Nat → Vector Nat 7} (hv : s.cfg.Valid)
    (hi : s.current = .ok .rsta) (hhist : s.hist = runHist v 0) (hport : s.port = runPorts s.cfg v r 0)
    (ha : ∀ m, m < n → CycleAnswers s (cycleOffset s.cfg d dp m) (d m) (dp m) (v m) (r m)) :
    ∃ t, RunsTo (cycleOffset s.cfg d dp n) s t ∧ t.current = .ok .rsta ∧ t.hist = runHist v n ∧
      t.port = runPorts s.cfg v r n := by
  induction n with
  | zero => exact ⟨s, runsTo_zero s, hi, hhist, hport⟩
  | succ n ih =>
    obtain ⟨t, hrun, hti, hth, -⟩ := ih fun m hm => ha m (Nat.lt_succ_of_lt hm)
    have hcfg := runsTo_cfg hrun
    obtain ⟨u, hu⟩ := cycle_leads (hcfg ▸ hv) hti ((ha n (Nat.lt_succ_self n)).rest hrun)
    have huh := State.read_of_regs State.hist hu.ends
    have hup := State.read_of_regs State.port hu.ends
    refine ⟨u, runsTo_add hrun (hcfg ▸ hu.run), State.current_of_regs hu.ends rfl, huh.trans ?_, hup.trans ?_⟩
    · exact congrArg (cycleHist · (v n)) hth
    · exact congrArg₂ (cyclePorts · · (v n) (r n)) hcfg hth

end Sys2Proof.Safety

open Sys2Proof Sys2Proof.Machine Sys2Proof.Safety

/-- Settles O57: the registers after the reads, `rescale()`, the pushes and maps and REND are those of the cycle function; REND, the
one writer of the buses, runs in the last period. -/
theorem controlLoopComputesCycle : Obligations.ControlLoopComputesCycle := by
  intro s d dp v r hv hi ha
  obtain ⟨t, h⟩ := cycle_leads hv hi ha
  obtain ⟨hcfg, -, hedge⟩ := runsTo_own h.run
  refine ⟨⟨t, h.run, State.current_of_regs h.ends rfl, ?_⟩, h.port⟩
  show (t.regs.hist, t.regs.port) = _ ∧ t.regs.raw = _ ∧ t.regs.potraw = _ ∧ t.regs.pot = _ ∧ t.regs.bnd = _ ∧
    t.regs.level = _ ∧ t.regs.outpat = t.regs.port ∧ t.regs.rstl = _ ∧ t.regs.stbl = _ ∧ t.regs.chsel = _ ∧
    t.regs.timer = _ ∧ _
  rw [h.ends]
  exact ⟨rfl, rfl, rfl, scalePot_eq r, rfl, rfl, rfl, rfl, rfl, rfl, rfl, hcfg, hedge⟩

/-- Settles O58: each cycle begins where the one before has ended, with the histories it has left, and shows until its end what the
one before has rendered. -/
theorem runFromResetFollowsCycles : Obligations.RunFromResetFollowsCycles := by
  intro p ins e n d dp v r hp ha
  have reset : ({ State.resetFor p with inputs := ins, edge := e } : State).current = .ok .rsta :=
    (State.current_eq _).trans rfl
  have comes {m : Nat} (hm : m ≤ n) := cycles_run (n := m) hp reset rfl rfl fun l hl => ha l (hl.trans_le hm)
  refine ⟨comes le_rfl, fun m k u hm hk hu => ?_⟩
  obtain ⟨t, hrun, hti, -, hport⟩ := comes hm.le
  have hcfg := runsTo_cfg hrun
  obtain ⟨_, h⟩ := cycle_leads (hcfg ▸ hp) hti ((ha m hm).rest hrun)
  have hu' := runsTo_rest hrun (Nat.le_add_right _ k) hu
  rw [Nat.add_sub_cancel_left] at hu'
  exact (h.port k u (hcfg ▸ hk) hu').trans hport
end

section
/-! The registers without a reset value never reach a pin (70_reset_and_hazards.md R164): every micro-operation reads only those
of them that the cycle has already written. -/

namespace Sys2Proof.Machine

/-- The state with other values in the six registers without a reset value (R45). -/
def State.withUnspecified (s : State) (w : Vector Nat 7) (pr po : Nat) (bd : Vector Nat 5) (lv op : Vector Nat 7) : State :=
  { s with raw := w, potraw := pr, pot := po, bnd := bd, level := lv, outpat := op }

variable {i j : Instr} {s u : State}

/-- An effect is what the micro-operation answers. -/
theorem Effect.exec_eq (e : Effect s i j u) : exec i s = .next u := by
  cases e with
  | rsta | rstd | selp | convp | selb | scale | rend => rfl
  | wrpStay h => exact isWait_wrp.exec_stays h
  | wrpLeave h => exact isWait_wrp.exec_leaves h
  | wrsStay h => exact isWait_wrs.exec_stays h
  | wrsLeave h => exact isWait_wrs.exec_leaves h
  | stba c => exact exec_stba c s
  | wsaStay c h => exact (isWait_wsa c).exec_stays h
  | wsaLeave c h => exact (isWait_wsa c).exec_leaves h
  | conv c => exact exec_conv c s
  | sampStay c h => exact exec_samp_wait h
  | sampLeave c h => exact exec_samp_done h
  | stbd c => exact exec_stbd c s
  | wsdStay c h => exact (isWait_wsd c).exec_stays h
  | wsdNext c h hc =>
    rw [(isWait_wsd c).exec_leaves h, nextBand_lt (Nat.lt_of_succ_lt_succ hc)]
    rfl
  | wsdLeave h => exact (isWait_wsd 6).exec_leaves h
  | samppStay h => exact exec_sampp_wait h
  | samppLeave h => exact exec_sampp_done h
  | push c => exact exec_push c s
  | mapNext c hc =>
    rw [exec_map, nextBand_lt (Nat.lt_of_succ_lt_succ hc)]
    rfl
  | mapLeave => exact exec_map 6 s

end Sys2Proof.Machine

namespace Sys2Proof.Safety

open Sys2Proof.Machine

variable {i j : Instr} {n : Nat} {s s' t u u' : State}

theorem SameButUnspecified.eq_withUnspecified (h : SameButUnspecified s s') :
    ∃ w pr po bd lv op, s' = s.withUnspecified w pr po bd lv op := ⟨_, _, _, _, _, _, h⟩

/-- How many bands have been sampled in the cycle when `i` is current (R84). -/
def sampledBands : Instr → Nat
  | .rsta | .wrp | .rstd | .wrs => 0
  | .stba b | .wsa b | .conv b | .samp b => b.toNat
  | .stbd b | .wsd b => b.toNat + 1
  | .selp | .convp | .sampp | .selb | .scale | .push _ | .map _ | .rend => 7

/-- The potentiometer's sample has been taken in the cycle and is still to be read when `i` is current (R84). -/
def potSampled : Instr → Bool
  | .selb | .scale => true
  | .rsta | .wrp | .rstd | .wrs | .stba _ | .wsa _ | .conv _ | .samp _ | .stbd _ | .wsd _ | .selp | .convp | .sampp | .push _
  | .map _ | .rend => false

/-- When `i` is current two states agree in every register with a reset value and in what the cycle has written of the others and
still reads. -/
structure Agree (i : Instr) (s s' : State) : Prop where
  same   : SameButUnspecified s s'
  raw    : ∀ b : Band, b.val < sampledBands i → s'.raw[b] = s.raw[b]
  potraw : potSampled i = true → s'.potraw = s.potraw
  bnd    : scaled i = true → s'.bnd = s.bnd
  level  : ∀ b : Band, i = .map (bandBits b) → s'.level[b] = s.level[b]
  outpat : ∀ b : Band, b.val < mappedBands i → s'.outpat[b] = s.outpat[b]

/-- Until the potentiometer is sampled the cycle still reads the bands' samples alone. -/
theorem agree_of_raw (hp : potSampled j = false) (hj : scaled j = false) (same : SameButUnspecified s s')
    (raw : ∀ b : Band, b.val < sampledBands j → s'.raw[b] = s.raw[b]) : Agree j s s' where
  same := same
  raw := raw
  potraw h := absurd (hp.symm.trans h) Bool.false_ne_true
  bnd h := absurd (hj.symm.trans h) Bool.false_ne_true
  level b h := by
    subst h
    cases hj
  outpat b hb := absurd ((no_bands_of_not_scaled hj).right ▸ hb) (Nat.not_lt_zero _)

/-- Writing one element of agreeing arrays alike makes them agree one band further. -/
theorem set_agrees {v v' : Vector Nat 7} {c : Band} {x x' : Nat} (h : ∀ b : Band, b.val < c.val → v'[b] = v[b]) (hx : x' = x)
    (b : Band) (hb : b.val < c.val + 1) : (v'.set c x')[b] = (v.set c x)[b] := by
  obtain rfl | hne := eq_or_ne c b
  · simpa using hx
  · have hlt : b.val < c.val := Nat.lt_of_le_of_ne (Nat.le_of_lt_succ hb) fun e => hne (Fin.ext e.symm)
    simpa [Vector.getElem_set_ne _ _ (Nat.ne_of_gt hlt)] using h b hlt

/-- Agreeing states go on alike, and agree at the next micro-operation. -/
theorem Agree.effect (a : Agree i s s') (e : Effect s i j u) : ∃ u', Effect s' i j u' ∧ Agree j u u' := by
  obtain ⟨same, raw, potraw, bnd, level, outpat⟩ := a
  obtain ⟨w, pr, po, bd, lv, op, rfl⟩ := same.eq_withUnspecified
  cases e
  case rsta => exact ⟨_, .rsta, agree_of_raw rfl rfl rfl raw⟩
  case wrpStay h => exact ⟨_, .wrpStay h, agree_of_raw rfl rfl rfl raw⟩
  case wrpLeave h => exact ⟨_, .wrpLeave h, agree_of_raw rfl rfl rfl raw⟩
  case rstd => exact ⟨_, .rstd, agree_of_raw rfl rfl rfl raw⟩
  case wrsStay h => exact ⟨_, .wrsStay h, agree_of_raw rfl rfl rfl raw⟩
  case wrsLeave h => exact ⟨_, .wrsLeave h, agree_of_raw rfl rfl rfl raw⟩
  case stba c => exact ⟨_, .stba c, agree_of_raw rfl rfl rfl raw⟩
  case wsaStay c h => exact ⟨_, .wsaStay c h, agree_of_raw rfl rfl rfl raw⟩
  case wsaLeave c h => exact ⟨_, .wsaLeave c h, agree_of_raw rfl rfl rfl raw⟩
  case conv c => exact ⟨_, .conv c, agree_of_raw rfl rfl rfl raw⟩
  case sampStay c h => exact ⟨_, .sampStay c h, agree_of_raw rfl rfl rfl raw⟩
  case sampLeave c h =>
    simp only [sampledBands, bandBits_toNat] at raw
    refine ⟨_, .sampLeave c h, agree_of_raw rfl rfl rfl fun b hb => set_agrees raw rfl b ?_⟩
    simpa [sampledBands] using hb
  case stbd c => exact ⟨_, .stbd c, agree_of_raw rfl rfl rfl raw⟩
  case wsdStay c h => exact ⟨_, .wsdStay c h, agree_of_raw rfl rfl rfl raw⟩
  case wsdNext c h hc =>
    refine ⟨_, .wsdNext (s := s.withUnspecified w pr po bd lv op) c h hc,
      agree_of_raw rfl rfl rfl fun b hb => raw b ?_⟩
    simpa [sampledBands] using hb
  case wsdLeave h => exact ⟨_, .wsdLeave h, agree_of_raw rfl rfl rfl raw⟩
  case selp => exact ⟨_, .selp, agree_of_raw rfl rfl rfl raw⟩
  case convp => exact ⟨_, .convp, agree_of_raw rfl rfl rfl raw⟩
  case samppStay h => exact ⟨_, .samppStay h, agree_of_raw rfl rfl rfl raw⟩
  case samppLeave h => exact ⟨_, .samppLeave h, rfl, raw, fun _ => rfl, nofun, nofun, nofun⟩
  case selb => exact ⟨_, .selb, rfl, raw, potraw, nofun, nofun, nofun⟩
  case scale =>
    obtain rfl : pr = s.potraw := potraw rfl
    exact ⟨_, .scale, rfl, raw, nofun, fun _ => rfl, nofun, fun b hb => absurd hb (Nat.not_lt_zero _)⟩
  case push c =>
    have hraw : w[c] = s.raw[c] := raw c c.isLt
    refine ⟨_, .push c, ?_, raw, nofun, fun _ => bnd rfl, fun b hb => ?_, outpat⟩
    · simp [SameButUnspecified, State.withUnspecified, State.setHistLevel, State.goto, hraw]
    · obtain rfl := bandBits_inj.mp (Instr.map.inj hb)
      simp [State.withUnspecified, hraw]
  case mapNext c hc =>
    simp only [mappedBands, bandBits_toNat] at outpat
    refine ⟨_, .mapNext c hc, rfl, raw, nofun, fun _ => bnd rfl, nofun, fun b hb => set_agrees outpat ?_ b ?_⟩
    · exact congrArg₂ (mapLevel s.cfg · · _) (level c rfl) (bnd rfl)
    · simpa [mappedBands] using hb
  case mapLeave =>
    refine ⟨_, .mapLeave, rfl, raw, nofun, fun _ => bnd rfl, nofun, set_agrees (c := 6) outpat ?_⟩
    exact congrArg₂ (mapLevel s.cfg · · _) (level 6 rfl) (bnd rfl)
  case rend =>
    obtain rfl : op = s.outpat := Vector.ext fun k hk => outpat ⟨k, hk⟩ hk
    exact ⟨_, .rend, agree_of_raw rfl rfl rfl fun b hb => absurd hb (Nat.not_lt_zero _)⟩

/-- The edge shows the environment the same pins in agreeing states. -/
theorem SameButUnspecified.closePeriod (h : SameButUnspecified s s') (hu : SameButUnspecified u u') :
    SameButUnspecified (s.closePeriod u) (s'.closePeriod u') := by
  obtain ⟨_, _, _, _, _, _, rfl⟩ := h.eq_withUnspecified
  obtain ⟨_, _, _, _, _, _, rfl⟩ := hu.eq_withUnspecified
  rfl

/-- Agreeing states step alike. -/
theorem Agree.step (a : Agree i s s') (hi : s.current = .ok i) (h : step s = .next t) :
    ∃ j t', step s' = .next t' ∧ t.current = .ok j ∧ Agree j t t' := by
  have hinput : s'.input = s.input := (congrArg State.input a.same :)
  have hi' : s'.current = .ok i := (congrArg State.current a.same :).trans hi
  obtain ⟨hp, rfl⟩ | ⟨hp, k, j, u, hk, e, rfl, hj⟩ := step_effect h
  · have reset : s'.powerOnReset = s.powerOnReset := (congrArg State.powerOnReset a.same :)
    refine ⟨.rsta, _, step_of_por (hinput ▸ hp), (State.closePeriod_current _ _).trans s.powerOnReset_current,
      agree_of_raw rfl rfl (a.same.closePeriod (reset ▸ rfl)) fun b hb => absurd hb (Nat.not_lt_zero _)⟩
  · obtain rfl : k = i := Except.ok.inj (hk.symm.trans hi)
    obtain ⟨u', e', same, raw, potraw, bnd, level, outpat⟩ := a.effect e
    exact ⟨j, _, step_of_exec (hinput ▸ hp) hi' e'.exec_eq, hj, a.same.closePeriod same, raw, potraw, bnd, level, outpat⟩

/-- Agreeing states run alike. -/
theorem Agree.run (a : Agree i s s') (hi : s.current = .ok i) (h : RunsTo n s t) :
    ∃ j t', RunsTo n s' t' ∧ Agree j t t' := by
  induction n generalizing i s s' with
  | zero =>
    obtain rfl := runsTo_zero_iff.mp h
    exact ⟨i, s', runsTo_zero s', a⟩
  | succ n ih =>
    obtain ⟨x, hx, hrest⟩ := runsTo_succ_iff.mp h
    obtain ⟨j, x', hx', hj, ax⟩ := a.step hi hx
    obtain ⟨k, t', hrun, ax'⟩ := ih ax hj hrest
    exact ⟨k, t', runsTo_succ hx' hrun, ax'⟩

end Sys2Proof.Safety

open Sys2Proof Sys2Proof.Machine Sys2Proof.Safety

/-- Settles O36: at RSTA the cycle reads none of the six registers, so the two runs agree from there on. -/
theorem unspecifiedRegistersNeverShow : Obligations.UnspecifiedRegistersNeverShow := by
  intro n s s' t hi same h
  have start : Agree .rsta s s' := agree_of_raw rfl rfl same fun b hb => absurd hb (Nat.not_lt_zero _)
  obtain ⟨j, t', hrun, a⟩ := start.run hi h
  exact ⟨t', hrun, fun level => (congrArg (State.pinsAt level) a.same :), (congrArg State.current a.same :),
    (congrArg State.timer a.same :), (congrArg State.hist a.same :)⟩
end
